-- ==== Sys2Proof/Word.lean ====
section
/-! DEFINITION. The word types: a byte, a 16-bit value and a byte sequence (00_scope.md R6, R7). -/

namespace Sys2Proof

/-- A byte, an unsigned integer 0 to 255 (R6). -/
abbrev Byte := BitVec 8

/-- A 16-bit value, an unsigned integer 0 to 65535 (R6). -/
abbrev Word := BitVec 16

/-- A byte sequence; index 0 is the byte that is first on the channel (R7). -/
abbrev Bytes := List Byte

end Sys2Proof
end

