-- ==== Sys2Proof/Machine/Bytes.lean ====
section
/-! DEFINITION. Splitting and joining 16-bit values, low byte first (20_memory.md R21, 00_scope.md R8, R10). -/

namespace Sys2Proof.Machine

/-- `Lo(a) = a & 0xFF` (R21). -/
def lo (a : Word) : Byte := a.setWidth 8

/-- `Hi(a) = a >> 8` (R21). -/
def hi (a : Word) : Byte := (a >>> 8).setWidth 8

/-- `zext_16(b)` (R8). -/
def zext16 (b : Byte) : Word := b.setWidth 16

/-- `Le16(lo, hi) = lo | (hi << 8)` (R21). -/
def le16 (l h : Byte) : Word := zext16 l ||| (zext16 h <<< 8)

end Sys2Proof.Machine
end

