-- ==== Sys2Proof/Syntax.lean ====
section
/-! DEFINITION. The seventeen operations of 30_encoding.md R32, one constructor per row of spec/opcode_table.json. -/

namespace Sys2Proof

/-- An operation of the host with its operands. Sequence operands are raw: the lengths the rules ask
for are checked by the operations, which refuse the others (R38, R103). -/
inductive Instr where
  /-- `CRC.CLR` (R43). -/
  | crcClr
  /-- `CRC.UPD b` (R44). -/
  | crcUpd (b : Byte)
  /-- `CRC.RD` (R45). -/
  | crcRd
  /-- `CHECKSUM s` (R46), a sequence of any length. -/
  | checksum (bs : Bytes)
  /-- `ENC.WRSP addr, data` (R51). -/
  | encWrsp (addr : Word) (data : Bytes)
  /-- `ENC.CPYSP addr` (R52). -/
  | encCpysp (addr : Word)
  /-- `ENC.RDSP` (R53). -/
  | encRdsp
  /-- `ENC.RDMEM addr` (R54). -/
  | encRdmem (addr : Word)
  /-- `ENC.CLRMEM` (R55). -/
  | encClrmem
  /-- `ENC.STOP` (R56). -/
  | encStop
  /-- `ENC.START` (R57). -/
  | encStart
  /-- `SEND` (R58). -/
  | send
  /-- `DEC.PAGE first, pfx, f` (R77). -/
  | decPage (first : Bool) (pfx f : Bytes)
  /-- `DEC.SP f` (R78). -/
  | decSp (f : Bytes)
  /-- `RECVSP` (R79). -/
  | recvsp
  /-- `READMEM addr, n` (R83). -/
  | readmem (addr : Word) (n : Nat)
  /-- `BUSRESET` (R86). -/
  | busreset
deriving DecidableEq, Repr

end Sys2Proof
end

