-- ==== Sys2Proof/WellFormed.lean ====
section
/-! DEFINITION. Which operations have a host command (30_encoding.md R33), and which of those are not refused for their operands alone (R38). -/

namespace Sys2Proof

/-- The operands fit the operation's host command format: the operation is some command's (R33). -/
def Instr.encodable : Instr → Bool
  | .crcClr => true
  | .crcUpd _ => true
  | .crcRd => true
  | .checksum bs => decide (bs.length ≤ 65535)
  | .encWrsp _ data => decide (data.length = 32)
  | .encCpysp _ => true
  | .encRdsp => true
  | .encRdmem _ => true
  | .encClrmem => true
  | .encStop => true
  | .encStart => true
  | .send => true
  | .decPage _ pfx f => decide (pfx.length = 3) && decide (f.length = 34)
  | .decSp f => decide (f.length = 35)
  | .recvsp => true
  | .readmem _ n => decide (n ≤ 65535)
  | .busreset => true

/-- The page count is positive ("positive integer", R80); no other operation has one. -/
def Instr.countPositive : Instr → Bool
  | .readmem _ n => decide (0 < n)
  | .crcClr | .crcUpd _ | .crcRd | .checksum _ | .encWrsp _ _ | .encCpysp _ | .encRdsp | .encRdmem _
  | .encClrmem | .encStop | .encStart | .send | .decPage _ _ _ | .decSp _ | .recvsp | .busreset => true

/-- Encodable, and no operand is one that R38 refuses whatever the parameters and the state. -/
def Instr.wellFormed (i : Instr) : Bool := i.encodable && i.countPositive

end Sys2Proof
end

