-- ==== Sys2Proof/Decode.lean ====
section
/-! DEFINITION. Host commands (30_encoding.md R33): the decoder, total and rejecting by name, the encoder, and the opcode table's words laid out as commands. -/

namespace Sys2Proof

open Sys2Proof.Machine (lo hi le16)

/-- Why a command is not one of R33 (R38, R103). -/
inductive Reject where
  /-- No byte at all: there is no selector. -/
  | noSelector
  /-- A selector byte that R33's table does not list. -/
  | reservedSelector (b : Byte)
  /-- The operand bytes are not as many as the selector's format says. -/
  | badLength (selector : Byte)
  /-- `DEC.PAGE` with a `first` byte that is neither 0x00 nor 0x01. -/
  | firstNotBit (b : Byte)
deriving DecidableEq, Repr

/-- The command formats of R33. -/
inductive Format where
  | h0 | hb | ha | han | had | hv | hp | hs
deriving DecidableEq, Repr

/-- The selector table of R33: the format of each selector, none for a reserved one. -/
def formatOf (sel : Byte) : Option Format :=
  match sel.toNat with
  | 0x01 => some .h0
  | 0x02 => some .hb
  | 0x03 => some .h0
  | 0x04 => some .hv
  | 0x10 => some .had
  | 0x11 => some .ha
  | 0x12 => some .h0
  | 0x13 => some .ha
  | 0x14 => some .h0
  | 0x15 => some .h0
  | 0x16 => some .h0
  | 0x20 => some .hp
  | 0x21 => some .hs
  | 0x30 => some .han
  | 0x31 => some .h0
  | 0x32 => some .h0
  | 0x33 => some .h0
  | _ => none

/-- Format H0: no operand byte. -/
def readH0 (sel : Byte) (i : Instr) (ops : Bytes) : Except Reject Instr :=
  match ops with
  | [] => .ok i
  | _ => .error (.badLength sel)

/-- Format HB: one byte. -/
def readHB (sel : Byte) (i : Byte → Instr) (ops : Bytes) : Except Reject Instr :=
  match ops with
  | [b] => .ok (i b)
  | _ => .error (.badLength sel)

/-- Format HA: an address, low byte first. -/
def readHA (sel : Byte) (i : Word → Instr) (ops : Bytes) : Except Reject Instr :=
  match ops with
  | [l, h] => .ok (i (le16 l h))
  | _ => .error (.badLength sel)

/-- Format HAN: an address and a count. -/
def readHAN (sel : Byte) (i : Word → Nat → Instr) (ops : Bytes) : Except Reject Instr :=
  match ops with
  | [l, h, nl, nh] => .ok (i (le16 l h) (le16 nl nh).toNat)
  | _ => .error (.badLength sel)

/-- Format HAD: an address and 32 data bytes. -/
def readHAD (sel : Byte) (i : Word → Bytes → Instr) (ops : Bytes) : Except Reject Instr :=
  match ops with
  | l :: h :: data => if data.length = 32 then .ok (i (le16 l h) data) else .error (.badLength sel)
  | _ => .error (.badLength sel)

/-- Format HV: a length and as many bytes. -/
def readHV (sel : Byte) (i : Bytes → Instr) (ops : Bytes) : Except Reject Instr :=
  match ops with
  | l :: h :: bs => if bs.length = (le16 l h).toNat then .ok (i bs) else .error (.badLength sel)
  | _ => .error (.badLength sel)

/-- Format HP: the bit `first`, a 3-byte prefix, a 34-byte frame. -/
def readHP (sel : Byte) (i : Bool → Bytes → Bytes → Instr) (ops : Bytes) : Except Reject Instr :=
  match ops with
  | b :: p0 :: p1 :: p2 :: f =>
    if f.length = 34 then
      match b.toNat with
      | 0 => .ok (i false [p0, p1, p2] f)
      | 1 => .ok (i true [p0, p1, p2] f)
      | _ => .error (.firstNotBit b)
    else .error (.badLength sel)
  | _ => .error (.badLength sel)

/-- Format HS: 35 bytes. -/
def readHS (sel : Byte) (i : Bytes → Instr) (ops : Bytes) : Except Reject Instr :=
  if ops.length = 35 then .ok (i ops) else .error (.badLength sel)

/-- The operation of one whole host command (R33), or why there is none (R38). -/
def decode (cmd : Bytes) : Except Reject Instr :=
  match cmd with
  | [] => .error .noSelector
  | sel :: ops =>
    match sel.toNat with
    | 0x01 => readH0 sel .crcClr ops
    | 0x02 => readHB sel .crcUpd ops
    | 0x03 => readH0 sel .crcRd ops
    | 0x04 => readHV sel .checksum ops
    | 0x10 => readHAD sel .encWrsp ops
    | 0x11 => readHA sel .encCpysp ops
    | 0x12 => readH0 sel .encRdsp ops
    | 0x13 => readHA sel .encRdmem ops
    | 0x14 => readH0 sel .encClrmem ops
    | 0x15 => readH0 sel .encStop ops
    | 0x16 => readH0 sel .encStart ops
    | 0x20 => readHP sel .decPage ops
    | 0x21 => readHS sel .decSp ops
    | 0x30 => readHAN sel .readmem ops
    | 0x31 => readH0 sel .send ops
    | 0x32 => readH0 sel .busreset ops
    | 0x33 => readH0 sel .recvsp ops
    | _ => .error (.reservedSelector sel)

/-- The selector byte of R33's table. -/
def selectorOf : Instr → Byte
  | .crcClr => 0x01
  | .crcUpd _ => 0x02
  | .crcRd => 0x03
  | .checksum _ => 0x04
  | .encWrsp _ _ => 0x10
  | .encCpysp _ => 0x11
  | .encRdsp => 0x12
  | .encRdmem _ => 0x13
  | .encClrmem => 0x14
  | .encStop => 0x15
  | .encStart => 0x16
  | .decPage _ _ _ => 0x20
  | .decSp _ => 0x21
  | .readmem _ _ => 0x30
  | .send => 0x31
  | .busreset => 0x32
  | .recvsp => 0x33

/-- A 16-bit operand, low byte first (R33). -/
def encode16 (a : Word) : Bytes := [lo a, hi a]

/-- The operand bytes of the operation's format (R33). -/
def operandBytes : Instr → Bytes
  | .crcUpd b => [b]
  | .checksum bs => encode16 (BitVec.ofNat 16 bs.length) ++ bs
  | .encWrsp addr data => encode16 addr ++ data
  | .encCpysp addr => encode16 addr
  | .encRdmem addr => encode16 addr
  | .decPage first pfx f => (if first then 0x01 else 0x00) :: pfx ++ f
  | .decSp f => f
  | .readmem addr n => encode16 addr ++ encode16 (BitVec.ofNat 16 n)
  | .crcClr | .crcRd | .encRdsp | .encClrmem | .encStop | .encStart | .send | .busreset | .recvsp => []

/-- The host command of an operation (R33), meant for an encodable one. -/
def encode (i : Instr) : Bytes := selectorOf i :: operandBytes i

/-- The total length of the command that begins with these bytes (R33): the selector alone decides it,
but for format HV, whose length field does. A reserved selector stands alone. -/
def commandLength (cmd : Bytes) : Nat :=
  match cmd with
  | [] => 0
  | sel :: ops =>
    match formatOf sel with
    | some .h0 => 1
    | some .hb => 2
    | some .ha => 3
    | some .han => 5
    | some .had => 35
    | some .hv => 3 + (le16 (ops.getD 0 0) (ops.getD 1 0)).toNat
    | some .hp => 39
    | some .hs => 36
    | none => 1

/-- The first `nbits / 8` bytes of an opcode-table word, the least significant byte first, that is the
command's byte 0 first (the table's numbering). -/
def tableBytes (nbits w : Nat) : Bytes :=
  (List.range (nbits / 8)).map fun j => BitVec.ofNat 8 (w >>> (8 * j))

/-- The command an opcode-table word stands for: its bytes, then zero operand bytes up to the length the
selector's format gives (log 19). -/
def tableCommand (nbits w : Nat) : Bytes :=
  let bs := tableBytes nbits w
  bs ++ List.replicate (commandLength bs - bs.length) 0

/-- The operation the decoder reads from an opcode-table word. -/
def decodeTableWord (nbits w : Nat) : Option Instr :=
  match decode (tableCommand nbits w) with
  | .ok i => some i
  | .error _ => none

end Sys2Proof
end

