-- ==== Sys2Proof/Machine/Constants.lean ====
section
/-! DEFINITION. The fixed constants of 00_scope.md section 4. -/

namespace Sys2Proof.Machine

/-- `CRC_POLY`. -/
def crcPoly : Word := 0x8005
/-- `CRC_POLY_REFL`. -/
def crcPolyRefl : Word := 0xA001
/-- `CRC_INIT`. -/
def crcInit : Word := 0x0000
/-- `CRC_XOROUT`. -/
def crcXorOut : Word := 0x0000
/-- `PAGE_BYTES`. -/
abbrev pageBytes : Nat := 32
/-- `RESP_BYTES`. -/
abbrev respBytes : Nat := 34
/-- `SPRESP_BYTES`. -/
abbrev spRespBytes : Nat := 35
/-- `PREFIX_BYTES`. -/
abbrev prefixBytes : Nat := 3
/-- `CPYSP_BYTE3`. -/
def cpySpByte3 : Byte := 0x1F
/-- `ADDR_STATUS`. -/
def addrStatus : Word := 0x0200
/-- `LEN_STATUS`, three pages (90_conflicts.md C1). -/
def lenStatus : Nat := 0x60
/-- `ADDR_LOG`. -/
def addrLog : Word := 0x1000

end Sys2Proof.Machine
end

