-- ==== Sys2Proof/Config.lean ====
section
/-! DEFINITION. What the spec leaves to the implementation, fixed for the life of the model and left without a value: the open parameters of 00_scope.md R5, and the channel's errors (60_exceptions.md R101). -/

namespace Sys2Proof

/-- The open parameters of R5, with the limits the spec sets on them carried by the types (log 7).
That the seven opcodes are pairwise distinct is not assumed: no rule depends on it (R5). -/
structure Params where
  /-- `P_OP_WRSP`, opcode of write-scratchpad. -/
  opWrSp : Byte
  /-- `P_OP_CPYSP`, opcode of copy-scratchpad. -/
  opCpySp : Byte
  /-- `P_OP_RDSP`, opcode of read-scratchpad. -/
  opRdSp : Byte
  /-- `P_OP_RDMEM`, opcode of read-memory. -/
  opRdMem : Byte
  /-- `P_OP_CLRMEM`, opcode of clear-memory. -/
  opClrMem : Byte
  /-- `P_OP_STOP`, opcode of stop-mission. -/
  opStop : Byte
  /-- `P_OP_START`, opcode of start-mission. -/
  opStart : Byte
  /-- `P_RDMEM_FILL[0..7]`, bytes 3 to 10 of the read-memory frame. -/
  rdMemFill : Vector Byte 8
  /-- `P_CPYSP_TAIL[0..7]`, bytes 4 to 11 of the copy-scratchpad frame. -/
  cpySpTail : Vector Byte 8
  /-- `P_RDSP_CMD` less its first byte, or absent: the frame has 1 to 35 bytes, the first of them
  `P_OP_RDSP` (R53). -/
  rdSpRest : Option { rest : Bytes // rest.length ≤ 34 }
  /-- `P_MAX_PAGES`, a positive integer, or unbounded (`none`). -/
  maxPages : Option { m : Nat // 0 < m }
deriving DecidableEq, Repr, Inhabited

/-- The machine's parameters. No body: nothing can be proved of their values (R5, R12; log 7). -/
opaque Config.params : Params

/-- Which tokens name an error of the channel: the parameter that makes `IOError` an opaque type (R101,
U10 of 93_implementation_defined.md). No body: nothing can be proved of which errors there are, nor of
how many (log 6). -/
opaque Config.isIOError : Nat → Bool

end Sys2Proof
end

