-- ==== Sys2Proof/Machine/State.lean ====
section
/-! DEFINITION. The block's state (10_state.md), its four ports (92_eei_decisions.md D4), and the state after reset (70_reset_and_hazards.md R120). -/

namespace Sys2Proof.Machine

/-- `IOError`, a type the spec leaves opaque (60_exceptions.md R101): its elements are the tokens that the
parameter `Config.isIOError` admits, and one more, so that a channel can fail at all (R27, R28). The block
hands an error on and never looks into it (log 6). -/
structure IOError where
  token : { t : Nat // t = 0 ∨ Config.isIOError t = true }
deriving DecidableEq, Repr

/-- `PHASE`, the sequencing state of a read transaction (R14). -/
inductive Phase where
  | idle | cmd | page | reset
deriving DecidableEq, Repr

/-- The kinds of error an operation can end in (60_exceptions.md R100). -/
inductive ErrKind where
  /-- The channel's own error, handed on unchanged (R101). -/
  | channelError (e : IOError)
  /-- A memory read response did not validate (R102). -/
  | checksumFault
  /-- The command was refused (R103). -/
  | illegalOperation
deriving DecidableEq, Repr

/-- `Err(kind, info)`: the kind and the information R100 records with it (log 15). -/
structure OpError where
  kind : ErrKind
  /-- The page index the rule gives with the error, where it gives one. -/
  page : Option Nat
  /-- READMEM only: whether its bus-reset write failed. -/
  resetFailed : Option Bool
deriving DecidableEq, Repr

/-- The value of an `Ok` result: nothing, a 16-bit value, or a byte sequence. -/
inductive Value where
  | unit
  | word (w : Word)
  | bytes (bs : Bytes)
deriving DecidableEq, Repr

/-- The result of an operation, as the host result port carries it (00_scope.md R9, D4). -/
inductive Result where
  | ok (v : Value)
  | err (e : OpError)
deriving DecidableEq, Repr

/-- `STATUS` (R16): the last operation's result in register form. -/
structure Status where
  /-- `ERR`, the codes of 60_exceptions.md R100. -/
  err : BitVec 2
  /-- `RSTERR`: the last READMEM's bus-reset write failed. -/
  rstErr : Bool
  /-- `ERRPAGE`. -/
  errPage : Nat
deriving DecidableEq, Repr

/-- What `ChWrite` returns (20_memory.md R27). -/
inductive WriteAnswer where
  | ok
  | err (e : IOError)
deriving DecidableEq, Repr

/-- What `ChRead` returns (R28). -/
inductive ReadAnswer where
  | ok (bs : Bytes)
  | err (e : IOError)
deriving DecidableEq, Repr

/-- One item of the channel's incoming stream: the next byte, or a failure of the read that meets it
(R28, log 2, log 3). -/
inductive RxItem where
  | byte (b : Byte)
  | fail (e : IOError)
deriving DecidableEq, Repr

/-- An event of the history (R27, R28, R30). -/
inductive Event where
  /-- `W(s, outcome)`. -/
  | w (bs : Bytes) (o : WriteAnswer)
  /-- `R(n, outcome)`. -/
  | r (n : Nat) (o : ReadAnswer)
deriving DecidableEq, Repr

/-- What the host puts on the command port: a whole command (R33, D4), or the reset input (R120). -/
inductive HostInput where
  | command (cmd : Bytes)
  | reset
deriving DecidableEq, Repr

/-- An operation other than READMEM that is blocked on the channel (R124, log 4). -/
inductive Waiting where
  | send | recvSp | busReset
deriving DecidableEq, Repr

/-- The block, its ports and the history. A buffer is the list of its bytes that hold a value (log 8). -/
structure State where
  /-- `CRC` (R13). -/
  crc : Word
  /-- `TXBUF[0..TXLEN-1]`, the staged frame (R17); `TXLEN` is `State.txLen`. -/
  txBuf : Bytes
  /-- `PFX`, the command's first three bytes (R18). -/
  pfx : Bytes
  /-- `FIRST` (R15). -/
  first : Bool
  /-- `K`, the index of the current page (R14). -/
  k : Nat
  /-- `N`, the page count of the transaction (R14). -/
  n : Nat
  /-- `RXBUF` (R18). -/
  rxBuf : Bytes
  /-- `BLK`, the validated pages so far (R18). -/
  blk : Bytes
  /-- `PHASE` (R14). -/
  phase : Phase
  /-- `STATUS` (R16). -/
  status : Status
  /-- `err` of 43_read_transaction.md R83: the error a transaction in progress has met. -/
  rdErr : Option OpError
  /-- The model's own: an operation other than READMEM that awaits the channel's answer (log 4). -/
  waiting : Option Waiting
  /-- Host command port: what the host has sent and the block has not taken, oldest first (log 1). -/
  hostIn : List HostInput
  /-- Host result port: the results so far, oldest first (log 21). -/
  hostOut : List Result
  /-- Outcomes of channel writes not consumed yet; empty: not answered yet (R27, R29, log 2). -/
  wrIn : List WriteAnswer
  /-- The channel's incoming stream from here on, as far as it has come (R28, R29, log 2). -/
  rdIn : List RxItem
  /-- The history of the run, oldest first (R30). -/
  history : List Event
deriving DecidableEq, Repr

/-- `TXLEN` (R17): `TXBUF[TXLEN..34]` holds no value, so the bytes that hold one are TXLEN (log 8). -/
def State.txLen (s : State) : Nat := s.txBuf.length

/-- No meaning ends in a fault: every error of the spec is an operation's result, after which the block
accepts the next operation (60_exceptions.md R107, R108; log 25). -/
inductive Fault
deriving DecidableEq, Repr

/-- Reasons to refuse an instruction's meaning. A command the SPEC calls refused is a next state
(`refuse`, R103), not one of these. -/
inductive Refusal where
  /-- An instruction without a meaning yet, raised by `exec` only; safe: the machine stops. None is left. -/
  | notModelled (mnemonic : String)
deriving DecidableEq, Repr

/-- The state after reset (R120). `N`, which R120 leaves without a value, is 0 (log 9); the ports, the
history and the model's own fields are empty (log 10). -/
def State.reset : State where
  crc := 0x0000
  txBuf := []
  pfx := []
  first := false
  k := 0
  n := 0
  rxBuf := []
  blk := []
  phase := .idle
  status := { err := 0, rstErr := false, errPage := 0 }
  rdErr := none
  waiting := none
  hostIn := []
  hostOut := []
  wrIn := []
  rdIn := []
  history := []

end Sys2Proof.Machine
end

