-- ==== Sys2Proof/Machine/Flags.lean ====
section
/-! DEFINITION. The status record as a function of the result (10_state.md R16, 60_exceptions.md R100), and the flag `FIRST` (R15). The block has no arithmetic flags. -/

namespace Sys2Proof.Machine

/-- The code of an error kind in `STATUS.ERR` (R100). -/
def errCode : ErrKind → BitVec 2
  | .channelError _ => 1
  | .checksumFault => 2
  | .illegalOperation => 3

/-- `STATUS` after an operation with this result (R16): not sticky, all three fields written. -/
def statusOf : Result → Status
  | .ok _ => { err := 0, rstErr := false, errPage := 0 }
  | .err e => { err := errCode e.kind, rstErr := e.resetFailed.getD false, errPage := e.page.getD 0 }

/-- `FIRST` when a transaction enters phase CMD (R15, R83). -/
def firstAtStart : Bool := true

/-- `FIRST` after a page has been validated (R15, R83). -/
def firstAfterPage : Bool := false

end Sys2Proof.Machine
end

