-- ==== Sys2Proof/Machine/Ops.lean ====
section
/-! DEFINITION. The shared operations: writing a register or a buffer, ending an operation with a value or an error (60_exceptions.md R107), the channel primitives (20_memory.md R27, R28), the block's reset (R120). -/

namespace Sys2Proof.Machine

/-- `CRC <- c`. -/
def State.setCrc (c : Word) (s : State) : State := { s with crc := c }

/-- `TXBUF[0..TXLEN-1] <- frame`, `TXLEN <- len(frame)`; the bytes beyond hold no value (R50). -/
def State.setTxBuf (frame : Bytes) (s : State) : State := { s with txBuf := frame }

/-- `RXBUF[0..len-1] <- bs`; the bytes beyond keep what they hold (R79, R83, log 11). -/
def State.setRxBuf (bs : Bytes) (s : State) : State := { s with rxBuf := bs ++ s.rxBuf.drop bs.length }

/-- `PHASE <- ph`. -/
def State.setPhase (ph : Phase) (s : State) : State := { s with phase := ph }

/-- `err <- e` (R83). -/
def State.setRdErr (e : Option OpError) (s : State) : State := { s with rdErr := e }

/-- An operation other than READMEM is, or is no longer, blocked on the channel (log 4). -/
def State.setWaiting (w : Option Waiting) (s : State) : State := { s with waiting := w }

/-- What the host command port still holds. -/
def State.setHostIn (h : List HostInput) (s : State) : State := { s with hostIn := h }

/-- An operation ends: its result goes to the host and, in register form, to `STATUS` (R16, D4). -/
def deliver (r : Result) (s : State) : State :=
  { s with status := statusOf r, hostOut := s.hostOut ++ [r] }

/-- An operation ends with a value: `return Ok(v)`. -/
def succeed (v : Value) (s : State) : State := deliver (.ok v) s

/-- An operation meets its primary error: `return Err(kind, info)` (R107). Nothing is saved for a handler
and the block accepts the next operation (R108). -/
def raise (e : OpError) (s : State) : State := deliver (.err e) s

/-- A refused command: IllegalOperation, and no state but `STATUS` changes (R103). -/
def refuse (s : State) : State := raise { kind := .illegalOperation, page := none, resetFailed := none } s

/-- The channel answered a write: the answer is consumed and the event recorded (R27). -/
def State.wrote (bs : Bytes) (a : WriteAnswer) (rest : List WriteAnswer) (s : State) : State :=
  { s with wrIn := rest, history := s.history ++ [.w bs a] }

/-- The channel answered a read: the stream moves on and the event is recorded (R28). -/
def State.read (n : Nat) (a : ReadAnswer) (rest : List RxItem) (s : State) : State :=
  { s with rdIn := rest, history := s.history ++ [.r n a] }

/-- `ChWrite(bs)` (R27): the answer and the state after it, or none while the channel has not answered. -/
def chWrite (bs : Bytes) (s : State) : Option (WriteAnswer × State) :=
  match s.wrIn with
  | [] => none
  | a :: rest => some (a, s.wrote bs a rest)

/-- The next `n` bytes of the incoming stream, or the failure met before them, with what is left of the
stream; none while neither has come (R28, log 3). -/
def takeRead : Nat → List RxItem → Option (ReadAnswer × List RxItem)
  | 0, items => some (.ok [], items)
  | _ + 1, [] => none
  | _ + 1, .fail e :: items => some (.err e, items)
  | n + 1, .byte b :: items =>
    match takeRead n items with
    | none => none
    | some (.ok bs, rest) => some (.ok (b :: bs), rest)
    | some (.err e, rest) => some (.err e, rest)

/-- `ChRead(n)` (R28): the answer and the state after it, or none while the channel has not answered. -/
def chRead (n : Nat) (s : State) : Option (ReadAnswer × State) :=
  match takeRead n s.rdIn with
  | none => none
  | some (a, rest) => some (a, s.read n a rest)

/-- The reset input (R120): the block's state as after reset; the channel is not touched, and what the
ports and the history hold stays (log 17). -/
def blockReset (s : State) : State :=
  { State.reset with
    hostIn := s.hostIn, hostOut := s.hostOut, wrIn := s.wrIn, rdIn := s.rdIn, history := s.history }

/-- The channel answers some more (the environment's move, not the block's): later write outcomes and
later items of the incoming stream join the ends of their lists (R29, log 2). -/
def State.feed (ws : List WriteAnswer) (rs : List RxItem) (s : State) : State :=
  { s with wrIn := s.wrIn ++ ws, rdIn := s.rdIn ++ rs }

end Sys2Proof.Machine
end

