-- ==== Sys2Proof/Machine/Checksum.lean ====
section
/-! DEFINITION. The CRC-16 checksum family: CRC.CLR, CRC.UPD, CRC.RD, CHECKSUM (40_crc.md R43 to R46). -/

namespace Sys2Proof.Machine

/-- `CRC.CLR` (R43). -/
def execCrcClr (s : State) : Host.Outcome State Fault Refusal :=
  .next (succeed .unit (s.setCrc crcInit))

/-- `CRC.UPD b` (R44). -/
def execCrcUpd (b : Byte) (s : State) : Host.Outcome State Fault Refusal :=
  .next (succeed .unit (s.setCrc (crcByte s.crc b)))

/-- `CRC.RD` (R45). -/
def execCrcRd (s : State) : Host.Outcome State Fault Refusal :=
  .next (succeed (.word s.crc) s)

/-- `CHECKSUM s` (R46). -/
def execChecksum (bs : Bytes) (s : State) : Host.Outcome State Fault Refusal :=
  .next (succeed (.word (checksum bs)) (s.setCrc (checksum bs)))

end Sys2Proof.Machine
end

