-- ==== Sys2Proof/Machine/Operands.lean ====
section
/-! DEFINITION. The wire frames: the outgoing layouts (30_encoding.md R34, 41_frame_encode.md R51 to R57), the parts of an incoming one (42_frame_decode.md R70, R75, R76), and the page-count bound. -/

namespace Sys2Proof.Machine

/-- `EncWrSp(addr, data)`, 35 bytes (R51). -/
def encWrSp (p : Params) (addr : Word) (data : Bytes) : Bytes := [p.opWrSp, lo addr, hi addr] ++ data

/-- `EncCpySp(addr)`, 12 bytes (R52). -/
def encCpySp (p : Params) (addr : Word) : Bytes :=
  [p.opCpySp, lo addr, hi addr, cpySpByte3] ++ p.cpySpTail.toList

/-- `EncRdSp() = P_RDSP_CMD`, where the parameter is present (R53). -/
def encRdSp (p : Params) : Option Bytes := p.rdSpRest.map fun rest => p.opRdSp :: rest.val

/-- `EncRdMem(addr)`, 11 bytes (R54). -/
def encRdMem (p : Params) (addr : Word) : Bytes := [p.opRdMem, lo addr, hi addr] ++ p.rdMemFill.toList

/-- `[op, 8×0x00, 0xFF]`, the layout that clear-memory, stop-mission and start-mission share (R34). -/
def encTen (op : Byte) : Bytes := op :: List.replicate 8 0x00 ++ [0xFF]

/-- `EncClrMem()` (R55). -/
def encClrMem (p : Params) : Bytes := encTen p.opClrMem

/-- `EncStop()` (R56). -/
def encStop (p : Params) : Bytes := encTen p.opStop

/-- `EncStart()` (R57). -/
def encStart (p : Params) : Bytes := encTen p.opStart

/-- `Data(f) = f[0..31]` (R70). -/
def frameData (f : Bytes) : Bytes := f.take pageBytes

/-- `Rx(f) = Le16(f[32], f[33])`, the received check value (R70). -/
def frameRx (f : Bytes) : Word := le16 (f.getD 32 0) (f.getD 33 0)

/-- `Context(first, pfx, d)` (R75): the prefix counts on the first page only. -/
def context (first : Bool) (pfx d : Bytes) : Bytes := if first then pfx ++ d else d

/-- The checksum of a response frame's context (R76). -/
def frameChecksum (first : Bool) (pfx f : Bytes) : Word := checksum (context first pfx (frameData f))

/-- The test of R76: the received value, inverted, equals the checksum. -/
def checkPasses (rx c : Word) : Bool := decide (~~~rx = c)

/-- `DecPage(first, pfx, f)` (R76): the data, or none for a ChecksumFault. -/
def decPage (first : Bool) (pfx f : Bytes) : Option Bytes :=
  if checkPasses (frameRx f) (frameChecksum first pfx f) then some (frameData f) else none

/-- `DecSp(f) = f` (R78). -/
def decSp (f : Bytes) : Bytes := f

/-- READMEM's bound on the page count: positive, and at most a finite `P_MAX_PAGES` (R38, R80). -/
def pagesAllowed (p : Params) (n : Nat) : Bool :=
  decide (0 < n) && (match p.maxPages with
    | none => true
    | some m => decide (n ≤ m.val))

end Sys2Proof.Machine
end

