-- ==== Sys2Proof/Machine/Decoder.lean ====
section
/-! DEFINITION. The frame decoder family: DEC.PAGE, DEC.SP, RECVSP (42_frame_decode.md R77 to R79). -/

namespace Sys2Proof.Machine

/-- `DEC.PAGE` on operands of the right lengths (R77): `CRC` keeps the computed checksum either way. -/
def checkPage (first : Bool) (pfx f : Bytes) (s : State) : State :=
  if checkPasses (frameRx f) (frameChecksum first pfx f) then
    succeed (.bytes (frameData f)) (s.setCrc (frameChecksum first pfx f))
  else
    raise { kind := .checksumFault, page := some 0, resetFailed := none }
      (s.setCrc (frameChecksum first pfx f))

/-- `DEC.PAGE first, pfx, f` (R77), refused on operands of other lengths. -/
def execDecPage (first : Bool) (pfx f : Bytes) (s : State) : Host.Outcome State Fault Refusal :=
  .next (if pfx.length = prefixBytes ∧ f.length = respBytes then checkPage first pfx f s else refuse s)

/-- `DEC.SP f` (R78), refused unless it has 35 bytes. -/
def execDecSp (f : Bytes) (s : State) : Host.Outcome State Fault Refusal :=
  .next (if f.length = spRespBytes then succeed (.bytes (decSp f)) s else refuse s)

/-- `RECVSP` (R79). While the channel has not answered, it is blocked in the read (R124). -/
def execRecvsp (s : State) : Host.Outcome State Fault Refusal :=
  .next (match chRead spRespBytes s with
    | none => s.setWaiting (some .recvSp)
    | some (.ok bs, s') => succeed (.bytes (decSp bs)) (s'.setRxBuf bs)
    | some (.err e, s') => raise { kind := .channelError e, page := none, resetFailed := none } s')

end Sys2Proof.Machine
end

