-- ==== Sys2Proof/Machine/Encoder.lean ====
section
/-! DEFINITION. The frame encoder family: the seven ENC operations and SEND (41_frame_encode.md R50 to R58). -/

namespace Sys2Proof.Machine

/-- Stage a frame: write it to the staging buffer and return it (R50). -/
def stage (frame : Bytes) (s : State) : State := succeed (.bytes frame) (s.setTxBuf frame)

/-- `ENC.WRSP addr, data` (R51), refused unless the payload has 32 bytes. -/
def execEncWrsp (addr : Word) (data : Bytes) (s : State) : Host.Outcome State Fault Refusal :=
  .next (if data.length = pageBytes then stage (encWrSp Config.params addr data) s else refuse s)

/-- `ENC.CPYSP addr` (R52). -/
def execEncCpysp (addr : Word) (s : State) : Host.Outcome State Fault Refusal :=
  .next (stage (encCpySp Config.params addr) s)

/-- `ENC.RDSP` under given parameters (R53): refused when `P_RDSP_CMD` is absent. -/
def stageRdSp (p : Params) (s : State) : State :=
  match encRdSp p with
  | none => refuse s
  | some frame => stage frame s

/-- `ENC.RDSP` (R53). -/
def execEncRdsp (s : State) : Host.Outcome State Fault Refusal :=
  .next (stageRdSp Config.params s)

/-- `ENC.RDMEM addr` (R54): it only stages the frame. -/
def execEncRdmem (addr : Word) (s : State) : Host.Outcome State Fault Refusal :=
  .next (stage (encRdMem Config.params addr) s)

/-- `ENC.CLRMEM` (R55). -/
def execEncClrmem (s : State) : Host.Outcome State Fault Refusal :=
  .next (stage (encClrMem Config.params) s)

/-- `ENC.STOP` (R56). -/
def execEncStop (s : State) : Host.Outcome State Fault Refusal :=
  .next (stage (encStop Config.params) s)

/-- `ENC.START` (R57). -/
def execEncStart (s : State) : Host.Outcome State Fault Refusal :=
  .next (stage (encStart Config.params) s)

/-- A channel write whose outcome is the operation's whole result (R58, R86). While the channel has not
answered, the operation `w` is blocked in it (R124). -/
def writeAndReport (w : Waiting) (bs : Bytes) (s : State) : State :=
  match chWrite bs s with
  | none => s.setWaiting (some w)
  | some (.ok, s') => succeed .unit s'
  | some (.err e, s') => raise { kind := .channelError e, page := none, resetFailed := none } s'

/-- `SEND` (R58): refused when nothing is staged; the staged frame stays staged. -/
def execSend (s : State) : Host.Outcome State Fault Refusal :=
  .next (if s.txLen = 0 then refuse s else writeAndReport .send s.txBuf s)

end Sys2Proof.Machine
end

