-- ==== Sys2Proof/Machine/Transaction.lean ====
section
/-! DEFINITION. The read transaction family: READMEM and BUSRESET (43_read_transaction.md R83, R86). READMEM is written as the phases of R14, each of which runs on as far as the channel has answered (R124), so that a blocked transaction resumes in the phase it waits in. -/

namespace Sys2Proof.Machine

/-- The start of R83: the prefix, `FIRST`, `K`, `N`, `BLK`, `err` and phase CMD. -/
def latchRead (p : Params) (addr : Word) (n : Nat) (s : State) : State :=
  { s with
    pfx := (encRdMem p addr).take prefixBytes
    first := firstAtStart
    k := 0
    n := n
    blk := []
    rdErr := none
    phase := .cmd }

/-- The command frame of the transaction in progress: its prefix, which `PFX` holds, and the filler
(R54, R83); `latchRead_frame` says that after `latchRead` it is `EncRdMem(addr)`. -/
def readFrame (p : Params) (s : State) : Bytes := s.pfx ++ p.rdMemFill.toList

/-- `RXBUF` and `CRC` after a response frame has been read (R83). -/
def loadPage (f : Bytes) (s : State) : State :=
  (s.setRxBuf f).setCrc (frameChecksum s.first s.pfx f)

/-- A validated page: `BLK`, `K`, `FIRST` (R83). -/
def acceptPage (f : Bytes) (s : State) : State :=
  { s with blk := s.blk ++ frameData f, k := s.k + 1, first := firstAfterPage }

/-- Phase RESET entered with the error the transaction has met, or none (R83). -/
def enterReset (e : Option OpError) (s : State) : State := (s.setRdErr e).setPhase .reset

/-- `BLK` is discarded (R85). -/
def discardBlk (s : State) : State := { s with blk := [] }

/-- The end of R83, the bus-reset write having been answered: the error met first keeps its kind, and a
failure of the reset write is reported beside it (R85, R106); with no error before it, that failure is
the error (R85, D19). -/
def finishRead (rr : WriteAnswer) (s : State) : State :=
  let s' := (s.setRdErr none).setPhase .idle
  match s.rdErr, rr with
  | some e, .ok => raise { e with resetFailed := some false } (discardBlk s')
  | some e, .err _ => raise { e with resetFailed := some true } (discardBlk s')
  | none, .err e => raise { kind := .channelError e, page := none, resetFailed := some true } (discardBlk s')
  | none, .ok => succeed (.bytes s.blk) s'

/-- Phase RESET: the bus-reset write (R83). -/
def resetPhase (s : State) : State :=
  match chWrite [] s with
  | none => s
  | some (rr, s') => finishRead rr s'

/-- Phase PAGE, with at most `fuel` pages to go: read a frame and validate it; on the first error, or
when the pages are read, on to the reset (R83, R84). -/
def readPages : Nat → State → State
  | 0, s => resetPhase (enterReset none s)
  | fuel + 1, s =>
    match chRead respBytes s with
    | none => s
    | some (.err e, s') =>
      resetPhase (enterReset (some { kind := .channelError e, page := some s.k, resetFailed := none }) s')
    | some (.ok f, s') =>
      if checkPasses (frameRx f) (loadPage f s').crc then
        readPages fuel (acceptPage f (loadPage f s'))
      else
        resetPhase (enterReset (some { kind := .checksumFault, page := some s.k, resetFailed := none })
          (loadPage f s'))

/-- Phase PAGE: the loop `while K < N` (R83). -/
def pagePhase (s : State) : State := readPages (s.n - s.k) s

/-- Phase CMD: the command write (R83). -/
def cmdPhase (p : Params) (s : State) : State :=
  match chWrite (readFrame p s) s with
  | none => s
  | some (.ok, s') => pagePhase (s'.setPhase .page)
  | some (.err e, s') =>
    resetPhase (enterReset (some { kind := .channelError e, page := some 0, resetFailed := none }) s')

/-- `READMEM addr, n` under given parameters (R83). -/
def readMem (p : Params) (addr : Word) (n : Nat) (s : State) : State :=
  if pagesAllowed p n then cmdPhase p (latchRead p addr n s) else refuse s

/-- `READMEM addr, n` (R83). -/
def execReadmem (addr : Word) (n : Nat) (s : State) : Host.Outcome State Fault Refusal :=
  .next (readMem Config.params addr n s)

/-- `BUSRESET` (R86): the zero-length write. -/
def execBusreset (s : State) : Host.Outcome State Fault Refusal :=
  .next (writeAndReport .busReset [] s)

end Sys2Proof.Machine
end

