-- ==== Sys2Proof/Machine/Dispatch.lean ====
section
/-! DEFINITION. The meaning of each operation, one arm per constructor of Instr (30_encoding.md R32). -/

namespace Sys2Proof.Machine

/-- One operation, from its start as far as the channel has answered. -/
def exec (i : Instr) (s : State) : Host.Outcome State Fault Refusal :=
  match i with
  | .crcClr => Sys2Proof.Machine.execCrcClr s
  | .crcUpd b => Sys2Proof.Machine.execCrcUpd b s
  | .crcRd => Sys2Proof.Machine.execCrcRd s
  | .checksum bs => Sys2Proof.Machine.execChecksum bs s
  | .encWrsp addr data => Sys2Proof.Machine.execEncWrsp addr data s
  | .encCpysp addr => Sys2Proof.Machine.execEncCpysp addr s
  | .encRdsp => Sys2Proof.Machine.execEncRdsp s
  | .encRdmem addr => Sys2Proof.Machine.execEncRdmem addr s
  | .encClrmem => Sys2Proof.Machine.execEncClrmem s
  | .encStop => Sys2Proof.Machine.execEncStop s
  | .encStart => Sys2Proof.Machine.execEncStart s
  | .send => Sys2Proof.Machine.execSend s
  | .decPage first pfx f => Sys2Proof.Machine.execDecPage first pfx f s
  | .decSp f => Sys2Proof.Machine.execDecSp f s
  | .recvsp => Sys2Proof.Machine.execRecvsp s
  | .readmem addr n => Sys2Proof.Machine.execReadmem addr n s
  | .busreset => Sys2Proof.Machine.execBusreset s

end Sys2Proof.Machine
end

