-- ==== Sys2Proof/Machine/Inputs.lean ====
section
/-! DEFINITION. What the step does with its inputs: taking the next host command (30_encoding.md R33, R38), resuming an operation that is blocked on the channel (70_reset_and_hazards.md R124), and the pseudo-operations of R39. -/

namespace Sys2Proof.Machine

/-- One whole command, taken from the port (R33): its operation runs, or it is refused (R38, R103). -/
def runCommand (cmd : Bytes) (s : State) : Host.Outcome State Fault Refusal :=
  match decode cmd with
  | .ok i => exec i s
  | .error _ => .next (refuse s)

/-- The idle block takes the oldest item of the host command port; with none it waits (R120, log 1). -/
def takeInput (s : State) : Host.Outcome State Fault Refusal :=
  match s.hostIn with
  | [] => .next s
  | .reset :: rest => .next (blockReset (s.setHostIn rest))
  | .command cmd :: rest => runCommand cmd (s.setHostIn rest)

/-- An operation other than READMEM that is blocked on the channel: its call is looked at again. Nothing
of it has happened yet, so it runs from its start (R124, log 4). -/
def resumeWaiting (w : Waiting) (s : State) : Host.Outcome State Fault Refusal :=
  match w with
  | .send => execSend (s.setWaiting none)
  | .recvSp => execRecvsp (s.setWaiting none)
  | .busReset => execBusreset (s.setWaiting none)

/-- One step of the block: go on with the operation in progress, or take the next input (R122). -/
def stepBlock (s : State) : Host.Outcome State Fault Refusal :=
  match s.phase with
  | .cmd => .next (cmdPhase Config.params s)
  | .page => .next (pagePhase s)
  | .reset => .next (resetPhase s)
  | .idle =>
    match s.waiting with
    | some w => resumeWaiting w s
    | none => takeInput s

/-- `s` with a command at the head of the host command port and no operation in progress, so that the
next step takes that command (log 18). -/
def placeCommand (cmd : Bytes) (s : State) : State :=
  { s with hostIn := .command cmd :: s.hostIn, phase := .idle, waiting := none }

/-- Operations one after the other, up to the first that does not answer a next state. -/
def execAll : List Instr → State → Host.Outcome State Fault Refusal
  | [], s => .next s
  | i :: is, s =>
    match exec i s with
    | .next s' => execAll is s'
    | .fault r => .fault r
    | .refused r => .refused r

/-- `RDSTATUS` expands to `READMEM 0x0200, 3` (R39). -/
def rdStatus : List Instr := [.readmem addrStatus (lenStatus / pageBytes)]

/-- `RDLOG n` expands to `READMEM 0x1000, n` (R39). -/
def rdLog (n : Nat) : List Instr := [.readmem addrLog n]

/-- `CHECKSUM.S s` expands to the streamed form (R39). -/
def checksumStreamed (bs : Bytes) : List Instr := .crcClr :: bs.map .crcUpd ++ [.crcRd]

end Sys2Proof.Machine
end

