-- ==== Sys2Proof/Machine/Step.lean ====
section
/-! DEFINITION. The step, and how an opcode-table word is placed where it takes its next command. -/

namespace Sys2Proof.Machine

/-- One step of the machine (`stepBlock`). -/
def step (s : State) : Host.Outcome State Fault Refusal := stepBlock s

/-- `s` with the command of an opcode-table word at the head of the host command port (log 18, 19). -/
def State.withFetchWord (s : State) (nbits w : Nat) : State := placeCommand (tableCommand nbits w) s

end Sys2Proof.Machine
end

