-- ==== Sys2Proof/Safety.lean ====
section
/-! DEFINITION. What claims say of a state: that no operation is in progress, that channel accesses have the sizes of 20_memory.md R25, and the invariant of the machine (10_state.md R14, R15, R17, R18). -/

namespace Sys2Proof.Machine

/-- No operation is in progress: the host can observe the block (R14). -/
def State.ready (s : State) : Prop := s.phase = .idle ∧ s.waiting = none

/-- An access of a size the block performs (R25, R28): a write of at most 35 bytes, or a read of 34 or 35
bytes that, when it succeeds, delivers exactly that many. -/
def Event.sized : Event → Prop
  | .w bs _ => bs.length ≤ 35
  | .r n (.ok bs) => (n = 34 ∨ n = 35) ∧ bs.length = n
  | .r n (.err _) => n = 34 ∨ n = 35

/-- During a READMEM (R14, R15, R18): the prefix is latched, `FIRST = 1` exactly when `K = 0`, `BLK`
holds the `K` pages validated, `K` is bounded by `N`, and no other operation is in progress. -/
structure State.TransactionInv (s : State) : Prop where
  pfx_length : s.pfx.length = 3
  first_iff : s.first = true ↔ s.k = 0
  blk_length : s.blk.length = 32 * s.k
  n_pos : 0 < s.n
  k_le : s.k ≤ s.n
  not_waiting : s.waiting = none
  cmd : s.phase = .cmd → s.k = 0 ∧ s.rdErr = none
  page : s.phase = .page → s.k < s.n ∧ s.rdErr = none
  reset : s.phase = .reset → s.rdErr = none → s.k = s.n

/-- The invariant of the machine. -/
structure State.Inv (s : State) : Prop where
  /-- `TXLEN` is 0 to 35 (R17). -/
  txLen_le : s.txLen ≤ 35
  /-- `RXBUF` has 35 bytes (R18). -/
  rxBuf_length : s.rxBuf.length ≤ 35
  transaction : s.phase ≠ .idle → s.TransactionInv
  idle_rdErr : s.phase = .idle → s.rdErr = none
  /-- Between transactions `BLK` is the last block, or discarded (R18, R85). -/
  idle_blk : s.phase = .idle → s.blk = [] ∨ s.blk.length = 32 * s.k
  history_sized : ∀ e ∈ s.history, e.sized

/-- The write outcomes an event used up (R27). -/
def Event.outcomes : Event → List WriteAnswer
  | .w _ a => [a]
  | .r _ _ => []

/-- The bytes an event delivered to the block (R28). -/
def Event.delivered : Event → Bytes
  | .w _ _ => []
  | .r _ (.ok bs) => bs
  | .r _ (.err _) => []

/-- A read that did not fail, or a write. -/
def Event.noFailedRead : Event → Prop
  | .w _ _ => True
  | .r _ (.ok _) => True
  | .r _ (.err _) => False

/-- Whether a write failed, as `resetFailed` reports it (R85). -/
def WriteAnswer.failed : WriteAnswer → Bool
  | .ok => false
  | .err _ => true

/-- `STATUS` after an operation that met no error (R16). -/
def Status.clear : Status := { err := 0, rstErr := false, errPage := 0 }

/-- The state a refused command leaves (R103): `STATUS` is `ERR = 3`, `RSTERR = 0`, `ERRPAGE = 0` and the
host gets `Err(IllegalOperation)`; nothing else is changed. -/
def State.afterRefusal (s : State) : State :=
  { s with
    status := { err := 3, rstErr := false, errPage := 0 }
    hostOut := s.hostOut ++ [.err { kind := .illegalOperation, page := none, resetFailed := none }] }

/-- The state an operation leaves that does nothing but answer `Ok(v)`. -/
def State.afterOk (v : Value) (s : State) : State :=
  { s with status := Status.clear, hostOut := s.hostOut ++ [.ok v] }

/-- `MakePage(first, pfx, d)` of 95_test_vectors.md: the frame with data `d` that validates. -/
def makePage (first : Bool) (pfx d : Bytes) : Bytes :=
  d ++ [lo (~~~(checksum (context first pfx d))), hi (~~~(checksum (context first pfx d)))]

/-- The frames a READMEM accepts for the pages `ds`: the first against the prefix when `first`, the later
ones against their data alone (R82). -/
def goodFrames (first : Bool) (pfx : Bytes) : List Bytes → List Bytes
  | [] => []
  | d :: ds => makePage first pfx d :: goodFrames false pfx ds

/-- The incoming stream that delivers these frames one after the other. -/
def streamOf (frames : List Bytes) : List RxItem := frames.flatten.map .byte

/-- The events of reading these frames (R81). -/
def readEvents (frames : List Bytes) : List Event := frames.map fun f => .r 34 (.ok f)

/-- The command prefix of a read at `addr` under the machine's parameters (R75). -/
def readPfx (addr : Word) : Bytes := [Config.params.opRdMem, lo addr, hi addr]

/-- The command frame of a read at `addr` under the machine's parameters (R34). -/
def readCmd (addr : Word) : Bytes := readPfx addr ++ Config.params.rdMemFill.toList

end Sys2Proof.Machine
end

