-- ==== Sys2Proof/Certificates/Slice0/Obligations.lean ====
section
/-! DEFINITION. The statements for the provers, in the order of spec/: encoding, checksum, encoder, decoder, transaction, errors, reset, the whole machine. -/

open Sys2Proof Sys2Proof.Machine

/-! ### Encodings -/

/-- R21: `Le16(Lo(a), Hi(a)) = a`, and the two parts of a joined value are the bytes joined. -/
def Obligations.LittleEndianSplitJoin : Prop :=
  (∀ a : Word, le16 (lo a) (hi a) = a ∧ (lo a).toNat = a.toNat % 256 ∧ (hi a).toNat = a.toNat / 256) ∧
  (∀ l h : Byte, (le16 l h).toNat = l.toNat + 256 * h.toNat)

/-- Sanity: host commands of 95_test_vectors.md section 3 and of R33's formats decode to their operations. -/
def Obligations.CommandsOfTheSpecDecode : Prop :=
  decode [0x01] = .ok .crcClr ∧
  decode [0x02, 0x31] = .ok (.crcUpd 0x31) ∧
  decode [0x04, 0x09, 0x00, 0x31, 0x32, 0x33, 0x34, 0x35, 0x36, 0x37, 0x38, 0x39] =
    .ok (.checksum [0x31, 0x32, 0x33, 0x34, 0x35, 0x36, 0x37, 0x38, 0x39]) ∧
  decode [0x13, 0x34, 0x12] = .ok (.encRdmem 0x1234) ∧
  decode [0x15] = .ok .encStop ∧
  decode [0x31] = .ok .send ∧
  decode [0x30, 0x00, 0x02, 0x03, 0x00] = .ok (.readmem 0x0200 3)

/-- Decoding an encoded operation gives it back, with every operand at every value R33's formats admit. -/
def Obligations.DecodeOfEncode : Prop :=
  ∀ i : Instr, i.encodable = true → decode (encode i) = .ok i

/-- Each operation has one command: what decodes to `i` is `encode i`, and `i` is encodable (R33). -/
def Obligations.EncodeOfDecode : Prop :=
  ∀ (cmd : Bytes) (i : Instr), decode cmd = .ok i → encode i = cmd ∧ i.encodable = true

/-- R33, R38: a selector byte not in the table is rejected whatever follows; a listed one with another
number of operand bytes than its format gives is rejected; DEC.PAGE with `first` above 1 is rejected. -/
def Obligations.IllFormedCommandsRejected : Prop :=
  (∀ (sel : Byte) (ops : Bytes),
    sel ∉ ([0x01, 0x02, 0x03, 0x04, 0x10, 0x11, 0x12, 0x13, 0x14, 0x15, 0x16, 0x20, 0x21, 0x30, 0x31, 0x32,
      0x33] : List Byte) → decode (sel :: ops) = .error (.reservedSelector sel)) ∧
  (∀ (cmd : Bytes) (i : Instr), decode cmd = .ok i → cmd.length = commandLength cmd) ∧
  (∀ (b : Byte) (ops : Bytes), ops.length = 37 → 1 < b.toNat →
    decode (0x20 :: b :: ops) = .error (.firstNotBit b))

/-! ### The checksum -/

/-- R40: the bit shifted out selects the XOR with 0xA001; the shift is logical. -/
def Obligations.CrcBitShiftsAndXors : Prop :=
  ∀ c : Word, crcBit c =
    if c.toNat % 2 = 1 then BitVec.ofNat 16 (c.toNat / 2) ^^^ 0xA001#16 else BitVec.ofNat 16 (c.toNat / 2)

/-- R41 (its last two clauses are the spec's own derivations): the byte is XORed in first, then exactly eight bit steps are made; feeding the byte bit by bit
gives the same; a byte equal to the register's low byte leaves the high byte. -/
def Obligations.CrcByteIsEightBitSteps : Prop :=
  (∀ (c : Word) (b : Byte), crcByte c b = crcBit^[8] (c ^^^ zext16 b)) ∧
  (∀ (c : Word) (b : Byte), crcByte c b =
    (List.range 8).foldl (fun r i => crcBit (r ^^^ ((zext16 b >>> i) &&& 1))) c) ∧
  (∀ c : Word, crcByte c (lo c) = zext16 (hi c))

/-- R48, laws 1 to 5 (laws the spec derives from R40 to R42). -/
def Obligations.ChecksumIsLinear : Prop :=
  checksum [] = 0 ∧
  (∀ x y : Word, crcBit (x ^^^ y) = crcBit x ^^^ crcBit y) ∧
  (∀ (c1 c2 : Word) (b1 b2 : Byte), crcByte (c1 ^^^ c2) (b1 ^^^ b2) = crcByte c1 b1 ^^^ crcByte c2 b2) ∧
  (∀ s t : Bytes, s.length = t.length →
    checksum (List.zipWith (· ^^^ ·) s t) = checksum s ^^^ checksum t) ∧
  (∀ (k : Nat) (s : Bytes), checksum (List.replicate k 0 ++ s) = checksum s) ∧
  (∀ s t : Bytes, checksum (s ++ t) = t.foldl crcByte (checksum s))

/-- R47 (computed and derived by the spec): the printed table is `T[i] = CrcByte(0, i)`, and the table form equals the bit-serial one. -/
def Obligations.TableFormEqualsBitSerial : Prop :=
  crcTable.length = 256 ∧
  (∀ i : Byte, crcTable[i.toNat]? = some (crcByte 0 i)) ∧
  (∀ (c : Word) (b : Byte), crcByteTable c b = crcByte c b)

/-- R49 (derived by the spec): both residues. -/
def Obligations.ChecksumResidues : Prop :=
  ∀ s : Bytes,
    checksum (s ++ [lo (checksum s), hi (checksum s)]) = 0x0000 ∧
    checksum (s ++ [lo (~~~checksum s), hi (~~~checksum s)]) = 0xB001

/-- R43. -/
def Obligations.CrcClrClearsRegister : Prop :=
  ∀ s : State, exec .crcClr s = .next (State.afterOk .unit { s with crc := 0x0000 })

/-- R44. -/
def Obligations.CrcUpdFoldsOneByte : Prop :=
  ∀ (b : Byte) (s : State),
    exec (.crcUpd b) s = .next (State.afterOk .unit { s with crc := crcByte s.crc b })

/-- R45: the register as held, and nothing but the result changes. -/
def Obligations.CrcRdReturnsRegister : Prop :=
  ∀ s : State, exec .crcRd s = .next (State.afterOk (.word s.crc) s)

/-- R46: the result and the register; and the streamed form returns and leaves the same, which the spec
derives from R42 to R45. -/
def Obligations.ChecksumEqualsStreamedForm : Prop :=
  ∀ (bs : Bytes) (s : State),
    exec (.checksum bs) s = .next (State.afterOk (.word (checksum bs)) { s with crc := checksum bs }) ∧
    ∃ t, execAll (.crcClr :: bs.map .crcUpd ++ [.crcRd]) s = .next t ∧
      t.crc = checksum bs ∧ t.hostOut.getLast? = some (.ok (.word (checksum bs))) ∧
      t.history = s.history ∧ t.wrIn = s.wrIn ∧ t.rdIn = s.rdIn ∧ t.txBuf = s.txBuf ∧ t.rxBuf = s.rxBuf

/-! ### The frame encoder -/

/-- R55, R56, R57: `[op, 8×0x00, 0xFF]` is staged and returned, TXLEN is 10, nothing else changes. -/
def Obligations.TenByteCommandFrames : Prop :=
  ∀ s : State,
    exec .encClrmem s = .next (State.afterOk
      (.bytes [Config.params.opClrMem, 0, 0, 0, 0, 0, 0, 0, 0, 0xFF])
      { s with txBuf := [Config.params.opClrMem, 0, 0, 0, 0, 0, 0, 0, 0, 0xFF] }) ∧
    exec .encStop s = .next (State.afterOk
      (.bytes [Config.params.opStop, 0, 0, 0, 0, 0, 0, 0, 0, 0xFF])
      { s with txBuf := [Config.params.opStop, 0, 0, 0, 0, 0, 0, 0, 0, 0xFF] }) ∧
    exec .encStart s = .next (State.afterOk
      (.bytes [Config.params.opStart, 0, 0, 0, 0, 0, 0, 0, 0, 0xFF])
      { s with txBuf := [Config.params.opStart, 0, 0, 0, 0, 0, 0, 0, 0, 0xFF] })

/-- R52, R54: opcode, address low byte first, then 0x1F and the tail, or the filler; 12 and 11 bytes. -/
def Obligations.AddressedCommandFrames : Prop :=
  ∀ (addr : Word) (s : State),
    ∃ copy read : Bytes,
      copy = [Config.params.opCpySp, BitVec.ofNat 8 addr.toNat, BitVec.ofNat 8 (addr.toNat / 256), 0x1F] ++
        Config.params.cpySpTail.toList ∧ copy.length = 12 ∧
      read = [Config.params.opRdMem, BitVec.ofNat 8 addr.toNat, BitVec.ofNat 8 (addr.toNat / 256)] ++
        Config.params.rdMemFill.toList ∧ read.length = 11 ∧
      exec (.encCpysp addr) s = .next (State.afterOk (.bytes copy) { s with txBuf := copy }) ∧
      exec (.encRdmem addr) s = .next (State.afterOk (.bytes read) { s with txBuf := read })

/-- R51: 32 payload bytes are staged behind opcode and address; another payload length is refused. -/
def Obligations.WriteScratchpadFrame : Prop :=
  ∀ (addr : Word) (data : Bytes) (s : State),
    exec (.encWrsp addr data) s =
      if data.length = 32 then
        .next (State.afterOk (.bytes (Config.params.opWrSp :: lo addr :: hi addr :: data))
          { s with txBuf := Config.params.opWrSp :: lo addr :: hi addr :: data })
      else .next s.afterRefusal

/-- R53: the parameter `P_RDSP_CMD` is staged, 1 to 35 bytes of which the first is `P_OP_RDSP`; when it is
absent the operation is refused. The second clause says the same of `stageRdSp`, of which ENC.RDSP is the
instance at the machine's parameters, for all parameters. -/
def Obligations.ReadScratchpadFrame : Prop :=
  (∀ s : State, exec .encRdsp s =
    match encRdSp Config.params with
    | some frame => .next (State.afterOk (.bytes frame) { s with txBuf := frame })
    | none => .next s.afterRefusal) ∧
  (∀ (p : Params) (s : State), (p.rdSpRest = none ∧ stageRdSp p s = s.afterRefusal) ∨
    ∃ rest : Bytes, rest.length ≤ 34 ∧ p.rdSpRest.map (·.val) = some rest ∧
      stageRdSp p s = State.afterOk (.bytes (p.opRdSp :: rest)) { s with txBuf := p.opRdSp :: rest })

/-- R58: SEND writes the staged bytes in one channel write and keeps them; with nothing staged it is
refused; a channel error is handed on. -/
def Obligations.SendWritesStagedFrame : Prop :=
  ∀ s : State,
    (s.txBuf = [] → exec .send s = .next s.afterRefusal) ∧
    (∀ ws, s.txBuf ≠ [] → s.wrIn = .ok :: ws →
      exec .send s = .next (State.afterOk .unit
        { s with wrIn := ws, history := s.history ++ [.w s.txBuf .ok] })) ∧
    (∀ e ws, s.txBuf ≠ [] → s.wrIn = .err e :: ws →
      exec .send s = .next { s with
        wrIn := ws
        history := s.history ++ [.w s.txBuf (.err e)]
        status := { err := 1, rstErr := false, errPage := 0 }
        hostOut := s.hostOut ++ [.err { kind := .channelError e, page := none, resetFailed := none }] })

/-! ### The frame decoder -/

/-- R77, R70, R75: the context is prefix and data when `first`, the data alone otherwise; the complement
of the little-endian check value must equal its checksum; CRC keeps that checksum either way; other
operand lengths are refused. -/
def Obligations.DecPageValidatesFrame : Prop :=
  ∀ (first : Bool) (pfx d : Bytes) (l h : Byte) (s : State),
    (pfx.length = 3 → d.length = 32 →
      exec (.decPage first pfx (d ++ [l, h])) s =
        if ~~~(le16 l h) = checksum (if first then pfx ++ d else d) then
          .next (State.afterOk (.bytes d) { s with crc := checksum (if first then pfx ++ d else d) })
        else .next { s with
          crc := checksum (if first then pfx ++ d else d)
          status := { err := 2, rstErr := false, errPage := 0 }
          hostOut := s.hostOut ++ [.err { kind := .checksumFault, page := some 0, resetFailed := none }] }) ∧
    (∀ f : Bytes, pfx.length ≠ 3 ∨ f.length ≠ 34 → exec (.decPage first pfx f) s = .next s.afterRefusal)

/-- R71 (derived by the spec from R76): for each context exactly one pair of check bytes validates. -/
def Obligations.ExactlyOneCheckPair : Prop :=
  ∀ (first : Bool) (pfx d : Bytes), d.length = 32 → ∃! lh : Byte × Byte,
    Machine.decPage first pfx (d ++ [lh.1, lh.2]) = some d

/-- R76: the validity test and its equivalent forms, which the spec derives. -/
def Obligations.ValidityTestForms : Prop :=
  ∀ (first : Bool) (pfx d : Bytes) (l h : Byte), d.length = 32 →
    let c := checksum (context first pfx d)
    (Machine.decPage first pfx (d ++ [l, h]) = some d ↔ ~~~(le16 l h) = c) ∧
    (Machine.decPage first pfx (d ++ [l, h]) = some d ↔ le16 l h = ~~~c) ∧
    (Machine.decPage first pfx (d ++ [l, h]) = some d ↔ le16 l h ^^^ c = 0xFFFF) ∧
    (Machine.decPage first pfx (d ++ [l, h]) = some d ↔ l = lo c ^^^ 0xFF ∧ h = hi c ^^^ 0xFF) ∧
    (Machine.decPage first pfx (d ++ [l, h]) = some d ↔ checksum (context first pfx d ++ [l, h]) = 0xB001) ∧
    (Machine.decPage first pfx (d ++ [l, h]) = none ↔ le16 l h ≠ ~~~c)

/-- R72, made exact: a frame that validates as a first page also validates as a later one if and only if
the prefix's own checksum is 0 (three zero bytes are one such prefix; log 22). -/
def Obligations.PageContextsDiffer : Prop :=
  ∀ (pfx f : Bytes), f.length = 34 → Machine.decPage true pfx f = some (frameData f) →
    (Machine.decPage false pfx f = some (frameData f) ↔ checksum pfx = 0)

/-- R78: 35 bytes pass through unchecked; another length is refused; CRC is not written. -/
def Obligations.DecSpPassesThrough : Prop :=
  ∀ (f : Bytes) (s : State),
    exec (.decSp f) s = if f.length = 35 then .next (State.afterOk (.bytes f) s) else .next s.afterRefusal

/-- R79: the next 35 bytes of the stream are stored and returned after one read event; a failure before
them is handed on with RXBUF unchanged (where the stream then stands is left open). -/
def Obligations.RecvspReadsScratchpad : Prop :=
  ∀ (s : State) (bs : Bytes) (rs : List RxItem),
    (bs.length = 35 → s.rdIn = bs.map .byte ++ rs →
      exec .recvsp s = .next (State.afterOk (.bytes bs) { s with
        rxBuf := bs ++ s.rxBuf.drop 35
        rdIn := rs
        history := s.history ++ [.r 35 (.ok bs)] })) ∧
    (∀ e, bs.length < 35 → s.rdIn = bs.map .byte ++ .fail e :: rs →
      ∃ left, exec .recvsp s = .next { s with
        rdIn := left
        history := s.history ++ [.r 35 (.err e)]
        status := { err := 1, rstErr := false, errPage := 0 }
        hostOut := s.hostOut ++ [.err { kind := .channelError e, page := none, resetFailed := none }] })

/-! ### The read transaction -/

/-- R86: one zero-length write, and its answer. -/
def Obligations.BusresetIsZeroLengthWrite : Prop :=
  ∀ s : State,
    (∀ ws, s.wrIn = .ok :: ws →
      exec .busreset s = .next (State.afterOk .unit
        { s with wrIn := ws, history := s.history ++ [.w [] .ok] })) ∧
    (∀ e ws, s.wrIn = .err e :: ws →
      exec .busreset s = .next { s with
        wrIn := ws
        history := s.history ++ [.w [] (.err e)]
        status := { err := 1, rstErr := false, errPage := 0 }
        hostOut := s.hostOut ++ [.err { kind := .channelError e, page := none, resetFailed := none }] })

/-- R81, R82, R83, path 4 of R84: writes accepted and `n` good frames on the stream, READMEM returns the
data of every page in order, after exactly the events of R81, and leaves the state R83 says. That BLK still
holds the block afterwards is the model's reading (log 14). -/
def Obligations.ReadmemReturnsAllPages : Prop :=
  ∀ (addr : Word) (ds : List Bytes) (ws : List WriteAnswer) (rs : List RxItem) (s : State),
    (∀ d ∈ ds, d.length = 32) → pagesAllowed Config.params ds.length = true →
    s.wrIn = .ok :: .ok :: ws → s.rdIn = streamOf (goodFrames true (readPfx addr) ds) ++ rs →
    ∃ t, exec (.readmem addr ds.length) s = .next t ∧
      t.hostOut = s.hostOut ++ [.ok (.bytes ds.flatten)] ∧ ds.flatten.length = 32 * ds.length ∧
      t.history = s.history ++ (.w (readCmd addr) .ok ::
        readEvents (goodFrames true (readPfx addr) ds) ++ [.w [] .ok]) ∧
      t.blk = ds.flatten ∧ t.k = ds.length ∧ t.n = ds.length ∧ t.first = false ∧ t.pfx = readPfx addr ∧
      t.phase = .idle ∧ t.rdErr = none ∧ t.status = Status.clear ∧
      (∀ d, ds.getLast? = some d →
        t.crc = checksum (context (decide (ds.length = 1)) (readPfx addr) d) ∧
        t.rxBuf.take 34 = makePage (decide (ds.length = 1)) (readPfx addr) d) ∧
      t.wrIn = ws ∧ t.rdIn = rs ∧ t.txBuf = s.txBuf ∧ t.waiting = s.waiting ∧ t.hostIn = s.hostIn

/-- R84, path 1, which is the spec's decision D20 (that a discarded BLK is empty, log 14, and that CRC is
unchanged, log 12, are the model's readings): the command write fails, the bus reset follows, nothing is read; the error is
the channel's, the reset's own failure is reported beside it. -/
def Obligations.ReadmemCommandWriteFails : Prop :=
  ∀ (addr : Word) (n : Nat) (e : IOError) (rr : WriteAnswer) (ws : List WriteAnswer) (s : State),
    pagesAllowed Config.params n = true → s.wrIn = .err e :: rr :: ws →
    exec (.readmem addr n) s = .next { s with
      pfx := readPfx addr, first := true, k := 0, n := n, blk := [], phase := .idle, rdErr := none
      wrIn := ws
      history := s.history ++ [.w (readCmd addr) (.err e), .w [] rr]
      status := { err := 1, rstErr := rr.failed, errPage := 0 }
      hostOut := s.hostOut ++
        [.err { kind := .channelError e, page := some 0, resetFailed := some rr.failed }] }

/-- R84, path 2 (BLK: log 14; what is left of the stream: log 3): `k` pages are good, then the read of page `k` fails; no further page is read, the bus
reset follows, no data is returned. -/
def Obligations.ReadmemPageReadFails : Prop :=
  ∀ (addr : Word) (n : Nat) (ds : List Bytes) (part : Bytes) (e : IOError) (rr : WriteAnswer)
    (ws : List WriteAnswer) (rs : List RxItem) (s : State),
    pagesAllowed Config.params n = true → (∀ d ∈ ds, d.length = 32) → ds.length < n → part.length < 34 →
    s.wrIn = .ok :: rr :: ws →
    s.rdIn = streamOf (goodFrames true (readPfx addr) ds) ++ (part.map .byte ++ .fail e :: rs) →
    ∃ t, exec (.readmem addr n) s = .next t ∧
      t.hostOut = s.hostOut ++
        [.err { kind := .channelError e, page := some ds.length, resetFailed := some rr.failed }] ∧
      t.status = { err := 1, rstErr := rr.failed, errPage := ds.length } ∧
      t.history = s.history ++ (.w (readCmd addr) .ok ::
        readEvents (goodFrames true (readPfx addr) ds) ++ [.r 34 (.err e), .w [] rr]) ∧
      t.k = ds.length ∧ t.n = n ∧ (t.first = true ↔ ds = []) ∧ t.pfx = readPfx addr ∧
      t.blk = [] ∧ t.phase = .idle ∧ t.rdErr = none ∧ t.wrIn = ws ∧ t.rdIn = rs ∧
      t.txBuf = s.txBuf ∧ t.waiting = s.waiting ∧ t.hostIn = s.hostIn

/-- R84, path 3, and R102 (BLK: log 14; RXBUF beyond the frame: log 11): `k` pages are good, page `k` does not validate; no further page is read, the bus
reset follows, no data is returned, CRC holds the computed checksum. -/
def Obligations.ReadmemPageDoesNotValidate : Prop :=
  ∀ (addr : Word) (n : Nat) (ds : List Bytes) (f : Bytes) (rr : WriteAnswer)
    (ws : List WriteAnswer) (rs : List RxItem) (s : State),
    pagesAllowed Config.params n = true → (∀ d ∈ ds, d.length = 32) → ds.length < n → f.length = 34 →
    Machine.decPage (decide (ds.length = 0)) (readPfx addr) f = none →
    s.wrIn = .ok :: rr :: ws →
    s.rdIn = streamOf (goodFrames true (readPfx addr) ds) ++ (f.map .byte ++ rs) →
    ∃ t, exec (.readmem addr n) s = .next t ∧
      t.hostOut = s.hostOut ++
        [.err { kind := .checksumFault, page := some ds.length, resetFailed := some rr.failed }] ∧
      t.status = { err := 2, rstErr := rr.failed, errPage := ds.length } ∧
      t.history = s.history ++ (.w (readCmd addr) .ok ::
        readEvents (goodFrames true (readPfx addr) ds) ++ [.r 34 (.ok f), .w [] rr]) ∧
      t.crc = checksum (context (decide (ds.length = 0)) (readPfx addr) (f.take 32)) ∧
      t.rxBuf = f ++ s.rxBuf.drop 34 ∧
      t.k = ds.length ∧ t.n = n ∧ (t.first = true ↔ ds = []) ∧ t.pfx = readPfx addr ∧
      t.blk = [] ∧ t.phase = .idle ∧ t.rdErr = none ∧ t.wrIn = ws ∧ t.rdIn = rs ∧
      t.txBuf = s.txBuf ∧ t.waiting = s.waiting ∧ t.hostIn = s.hostIn

/-- R84, path 4, and R85, which is the spec's decision D19 (BLK: log 14; that no page goes with the error:
log 15): every page validates and the bus-reset write fails; the result is that
channel error with `resetFailed`, and no block. -/
def Obligations.ReadmemResetWriteFails : Prop :=
  ∀ (addr : Word) (ds : List Bytes) (e : IOError) (ws : List WriteAnswer) (rs : List RxItem) (s : State),
    (∀ d ∈ ds, d.length = 32) → pagesAllowed Config.params ds.length = true →
    s.wrIn = .ok :: .err e :: ws → s.rdIn = streamOf (goodFrames true (readPfx addr) ds) ++ rs →
    ∃ t, exec (.readmem addr ds.length) s = .next t ∧
      t.hostOut = s.hostOut ++ [.err { kind := .channelError e, page := none, resetFailed := some true }] ∧
      t.status = { err := 1, rstErr := true, errPage := 0 } ∧
      t.history = s.history ++ (.w (readCmd addr) .ok ::
        readEvents (goodFrames true (readPfx addr) ds) ++ [.w [] (.err e)]) ∧
      t.blk = [] ∧ t.k = ds.length ∧ t.phase = .idle ∧ t.wrIn = ws ∧ t.rdIn = rs ∧ t.txBuf = s.txBuf

/-- R85, R87: a block READMEM returns is the data of `n` frames taken from the stream in order, each of
which validated in its own context; the transaction wrote its command, read those frames and reset the bus.
That a block is returned only when the bus-reset write was answered Ok is the spec's decision D19. -/
def Obligations.ReturnedBlockIsValidated : Prop :=
  ∀ (addr : Word) (n : Nat) (s t : State) (blk : Bytes),
    exec (.readmem addr n) s = .next t → t.hostOut = s.hostOut ++ [.ok (.bytes blk)] →
    ∃ frames : List Bytes, frames.length = n ∧ 0 < n ∧ (∀ f ∈ frames, f.length = 34) ∧
      s.rdIn = streamOf frames ++ t.rdIn ∧
      (∀ (k : Nat) (f : Bytes), frames[k]? = some f →
        Machine.decPage (decide (k = 0)) (readPfx addr) f = some (f.take 32)) ∧
      blk = (frames.map (List.take 32)).flatten ∧ blk.length = 32 * n ∧
      t.history = s.history ++ (.w (readCmd addr) .ok :: readEvents frames ++ [.w [] .ok])

/-- R84: whatever the channel answers, an ended READMEM that was not refused wrote its command once, read
at most `n` frames, and its last event is the bus-reset write. That the bus reset follows a failed command
write too is the spec's decision D20; that the reset input never ends a transaction is the model's choice
(log 17). -/
def Obligations.BusResetOnEveryExitPath : Prop :=
  ∀ (addr : Word) (n : Nat) (s t : State), pagesAllowed Config.params n = true →
    exec (.readmem addr n) s = .next t → t.phase = .idle →
    ∃ (a rr : WriteAnswer) (reads : List ReadAnswer),
      t.history = s.history ++ (.w (readCmd addr) a :: reads.map (.r 34) ++ [.w [] rr]) ∧
      reads.length ≤ n ∧ (a ≠ .ok → reads = []) ∧
      (∀ r ∈ reads.dropLast, ∃ bs, r = .ok bs)

/-! ### Errors and refusals -/

/-- R38, R103: every refused command changes nothing but STATUS and answers `Err(IllegalOperation)`. The
clauses with parameters are about the functions of which ENC.RDSP and READMEM are the instances at the
machine's parameters. The last clause says which page counts are NOT refused (R38, R80): the positive ones
up to a finite bound, the bound itself among them. -/
def Obligations.RefusalChangesOnlyStatus : Prop :=
  (∀ (s : State) (cmd : Bytes) (rest : List HostInput) (r : Reject), s.ready →
    s.hostIn = .command cmd :: rest → decode cmd = .error r →
    step s = .next (State.afterRefusal { s with hostIn := rest })) ∧
  (∀ (addr : Word) (data : Bytes) (s : State), data.length ≠ 32 →
    exec (.encWrsp addr data) s = .next s.afterRefusal) ∧
  (∀ (first : Bool) (pfx f : Bytes) (s : State), ¬(pfx.length = 3 ∧ f.length = 34) →
    exec (.decPage first pfx f) s = .next s.afterRefusal) ∧
  (∀ (f : Bytes) (s : State), f.length ≠ 35 → exec (.decSp f) s = .next s.afterRefusal) ∧
  (∀ s : State, s.txLen = 0 → exec .send s = .next s.afterRefusal) ∧
  (∀ (addr : Word) (s : State), exec (.readmem addr 0) s = .next s.afterRefusal) ∧
  (∀ (p : Params) (addr : Word) (n : Nat) (s : State),
    (∃ m, p.maxPages = some m ∧ m.val < n) → readMem p addr n s = s.afterRefusal) ∧
  (∀ (addr : Word) (n : Nat) (s : State),
    exec (.readmem addr n) s = .next (readMem Config.params addr n s)) ∧
  (∀ (p : Params) (s : State), p.rdSpRest = none → stageRdSp p s = s.afterRefusal) ∧
  (∀ s : State, exec .encRdsp s = .next (stageRdSp Config.params s)) ∧
  (∀ (p : Params) (n : Nat), pagesAllowed p n = true ↔ 0 < n ∧ ∀ m, p.maxPages = some m → n ≤ m.val)

/-- R16, R100: a step that ends an operation appends one result, and STATUS is that result in register
form; a step that ends none leaves STATUS as it was, unless it is the ready block's taking of the reset
input, which clears STATUS (R120; when that input is taken is the model's choice, log 17). -/
def Obligations.StatusMirrorsLastResult : Prop :=
  ∀ s t : State, step s = .next t →
    (t.hostOut = s.hostOut ∧ (t.status = s.status ∨
      s.ready ∧ s.hostIn = .reset :: t.hostIn ∧ t.status = { err := 0, rstErr := false, errPage := 0 })) ∨
    (∃ v, t.hostOut = s.hostOut ++ [.ok v] ∧ t.status = { err := 0, rstErr := false, errPage := 0 }) ∨
    (∃ e : OpError, t.hostOut = s.hostOut ++ [.err e] ∧
      t.status.err = (match e.kind with
        | .channelError _ => 1
        | .checksumFault => 2
        | .illegalOperation => 3) ∧
      t.status.rstErr = e.resetFailed.getD false ∧ t.status.errPage = e.page.getD 0)

/-- R107, R108: after a result, `Ok` or `Err`, the block is ready for the next operation (in `ready`, the
field `waiting` is the model's own, log 4). -/
def Obligations.ResultLeavesBlockReady : Prop :=
  ∀ s t : State, s.Inv → step s = .next t → t.hostOut ≠ s.hostOut → t.ready

/-- Every step answers a next state: no operation, no error and no input stops the block (R103, R107). That
a block waiting for the host (log 1) or for the channel (R124, log 4) answers a next state, the same one,
and that there is no fault at all (log 25) are the model's forms. -/
def Obligations.StepAlwaysAnswersNext : Prop :=
  ∀ s : State, ∃ t, step s = .next t

/-! ### Waiting -/

/-- An operation whose channel call is not answered is blocked with none of its later effects; how the
model records it is its own choice (log 4), and that a READMEM waiting in phase CMD has not written CRC is
its reading (log 12). -/
def Obligations.UnansweredCallBlocksOperation : Prop :=
  (∀ s : State, s.txBuf ≠ [] → s.wrIn = [] → exec .send s = .next { s with waiting := some .send }) ∧
  (∀ (s : State) (bs : Bytes), bs.length < 35 → s.rdIn = bs.map .byte →
    exec .recvsp s = .next { s with waiting := some .recvSp }) ∧
  (∀ s : State, s.wrIn = [] → exec .busreset s = .next { s with waiting := some .busReset }) ∧
  (∀ (addr : Word) (n : Nat) (s : State), pagesAllowed Config.params n = true → s.wrIn = [] →
    ∃ t, exec (.readmem addr n) s = .next t ∧ t.phase = .cmd ∧ t.history = s.history ∧
      t.hostOut = s.hostOut ∧ t.status = s.status ∧ t.crc = s.crc ∧ t.rxBuf = s.rxBuf ∧ t.txBuf = s.txBuf)

/-- R124: while the channel withholds the answer an operation is blocked on, the step changes nothing. That
such a wait is a step which answers the same state, where U14 of 93_implementation_defined.md has no step,
and the field `waiting` of the last three clauses are the model's form (log 4). -/
def Obligations.WithheldAnswerIsAWait : Prop :=
  (∀ s : State, s.phase = .cmd → s.wrIn = [] → step s = .next s) ∧
  (∀ s : State, s.phase = .reset → s.wrIn = [] → step s = .next s) ∧
  (∀ (s : State) (bs : Bytes), s.phase = .page → s.k < s.n → bs.length < 34 → s.rdIn = bs.map .byte →
    step s = .next s) ∧
  (∀ s : State, s.phase = .idle → s.waiting = some .send → s.txBuf ≠ [] → s.wrIn = [] → step s = .next s) ∧
  (∀ (s : State) (bs : Bytes), s.phase = .idle → s.waiting = some .recvSp → bs.length < 35 →
    s.rdIn = bs.map .byte → step s = .next s) ∧
  (∀ s : State, s.phase = .idle → s.waiting = some .busReset → s.wrIn = [] → step s = .next s)

/-- R28, R124: when the channel's answers come makes no difference. If an operation is blocked, the step
after the late answers arrive ends where the operation would have with those answers there from the start;
if it has ended, later answers stay for the next operation. How a blocked operation is kept and resumed,
and that one step runs it as far as the answers go, are the model's (log 4, 5). -/
def Obligations.LateAnswersMakeNoDifference : Prop :=
  ∀ (i : Instr) (s t : State) (ws : List WriteAnswer) (rs : List RxItem), s.ready → exec i s = .next t →
    (¬ t.ready → step (t.feed ws rs) = exec i (s.feed ws rs)) ∧
    (t.ready → exec i (s.feed ws rs) = .next (t.feed ws rs))

/-! ### The step and the whole machine -/

/-- A step of the idle block runs the operation its next command decodes to (R33). -/
def Obligations.StepRunsDecodedCommand : Prop :=
  ∀ (s : State) (cmd : Bytes) (rest : List HostInput) (i : Instr), s.ready →
    s.hostIn = .command cmd :: rest → decode cmd = .ok i → step s = exec i { s with hostIn := rest }

/-- The idle block waits for the host: with no input a step changes nothing. -/
def Obligations.IdleBlockWaitsForHost : Prop :=
  ∀ s : State, s.ready → s.hostIn = [] → step s = .next s

/-- R122: while an operation is in progress the step takes nothing from the host command port. That port as
a list (log 1) and the field `waiting` in `ready` (log 4) are the model's own. -/
def Obligations.BusyBlockTakesNoCommand : Prop :=
  ∀ s t : State, ¬ s.ready → step s = .next t → t.hostIn = s.hostIn

/-- The reset input: every element at its value after reset, the block idle and ready for the next command,
and the channel, the history and the results not touched. That reset is taken between operations, and the values of N and of the model's own fields,
are the model's choice (log 9, 10, 17), and this statement says nothing of N. -/
def Obligations.ResetInputClearsBlock : Prop :=
  ∀ (s : State) (rest : List HostInput), s.ready → s.hostIn = .reset :: rest →
    ∃ t, step s = .next t ∧
      t.crc = 0x0000 ∧ t.txLen = 0 ∧ t.txBuf = [] ∧ t.pfx = [] ∧ t.first = false ∧ t.k = 0 ∧
      t.rxBuf = [] ∧ t.blk = [] ∧ t.phase = .idle ∧ t.status = { err := 0, rstErr := false, errPage := 0 } ∧
      t.ready ∧
      t.hostIn = rest ∧ t.hostOut = s.hostOut ∧ t.wrIn = s.wrIn ∧ t.rdIn = s.rdIn ∧ t.history = s.history

/-- The state after reset: the values of the table of 70_reset_and_hazards.md section 1; the elements it
leaves without a value hold none; the block is idle and ready for the first host command (that no operation
is blocked then is, in the model's own field, log 10). Nothing is said of N (log 9). -/
def Obligations.ResetStateOfTheSpec : Prop :=
  State.reset.crc = 0x0000 ∧ State.reset.txLen = 0 ∧ State.reset.txBuf = [] ∧ State.reset.pfx = [] ∧
  State.reset.first = false ∧ State.reset.k = 0 ∧ State.reset.rxBuf = [] ∧ State.reset.blk = [] ∧
  State.reset.phase = .idle ∧ State.reset.status = { err := 0, rstErr := false, errPage := 0 } ∧
  State.reset.ready

/-- The table of 10_state.md section 1, read as a frame: an operation changes an element only if the table
lists it among the element's writers. It touches the channel only if it is SEND, RECVSP, READMEM or
BUSRESET (R25), and the history, a sequence of events (R30), only grows. The host's inputs are not changed
by an operation (the command port's shape is log 1). That the delivered results are kept, in a list that
only grows (log 21), and the field `waiting` (log 4) are the model's own. -/
def Obligations.OnlyListedWritersWrite : Prop :=
  ∀ (i : Instr) (s t : State), exec i s = .next t →
    (t.crc ≠ s.crc → (match i with
      | .crcClr | .crcUpd _ | .checksum _ | .decPage _ _ _ | .readmem _ _ => True
      | .crcRd | .encWrsp _ _ | .encCpysp _ | .encRdsp | .encRdmem _ | .encClrmem | .encStop | .encStart
      | .send | .decSp _ | .recvsp | .busreset => False)) ∧
    (t.txBuf ≠ s.txBuf → (match i with
      | .encWrsp _ _ | .encCpysp _ | .encRdsp | .encRdmem _ | .encClrmem | .encStop | .encStart => True
      | .crcClr | .crcUpd _ | .crcRd | .checksum _ | .send | .decPage _ _ _ | .decSp _ | .recvsp
      | .readmem _ _ | .busreset => False)) ∧
    (t.rxBuf ≠ s.rxBuf → (∃ addr n, i = .readmem addr n) ∨ i = .recvsp) ∧
    (t.pfx ≠ s.pfx ∨ t.first ≠ s.first ∨ t.k ≠ s.k ∨ t.n ≠ s.n ∨ t.blk ≠ s.blk ∨ t.phase ≠ s.phase ∨
      t.rdErr ≠ s.rdErr → ∃ addr n, i = .readmem addr n) ∧
    (t.history ≠ s.history ∨ t.wrIn ≠ s.wrIn ∨ t.rdIn ≠ s.rdIn ∨ t.waiting ≠ s.waiting →
      i = .send ∨ i = .recvsp ∨ i = .busreset ∨ ∃ addr n, i = .readmem addr n) ∧
    t.hostIn = s.hostIn ∧ s.hostOut <+: t.hostOut ∧ s.history <+: t.history

/-- R27, R28, R30: a step appends events to the history; each write event uses up one write outcome, in
order; the stream moves on by exactly the bytes the read events delivered, in order, none skipped and none
repeated, unless a read failed. The two lists of answers are the model's form of the channel (log 2). -/
def Obligations.ChannelIsConsumedInOrder : Prop :=
  ∀ s t : State, step s = .next t →
    ∃ (evs : List Event) (taken : List RxItem), t.history = s.history ++ evs ∧
      s.wrIn = evs.flatMap Event.outcomes ++ t.wrIn ∧ s.rdIn = taken ++ t.rdIn ∧
      ((∀ e ∈ evs, e.noFailedRead) → taken = (evs.flatMap Event.delivered).map .byte)

/-- R20: the result, the channel events and what is left of the channel's answers depend on the operands,
the parameters and the channel's answers alone, except that CRC.UPD and CRC.RD also read CRC and SEND also
reads the staged frame. The lists of answers are the model's form of the channel (log 2). -/
def Obligations.ResultsDependOnOperandsOnly : Prop :=
  ∀ (i : Instr) (s1 s2 t1 t2 : State), s1.wrIn = s2.wrIn → s1.rdIn = s2.rdIn →
    (i = .crcRd ∨ (∃ b, i = .crcUpd b) → s1.crc = s2.crc) → (i = .send → s1.txBuf = s2.txBuf) →
    exec i s1 = .next t1 → exec i s2 = .next t2 →
    ∃ (out : List Result) (evs : List Event),
      t1.hostOut = s1.hostOut ++ out ∧ t2.hostOut = s2.hostOut ++ out ∧
      t1.history = s1.history ++ evs ∧ t2.history = s2.history ++ evs ∧
      t1.wrIn = t2.wrIn ∧ t1.rdIn = t2.rdIn ∧ (out ≠ [] → t1.status = t2.status)

/-- R14: a transaction only moves forward, CMD to PAGE to RESET to IDLE; K does not decrease and N stays.
PFX stays as latched at the start (R18, R82, R83). That one step can pass several phases is the model's
reading (log 5). -/
def Obligations.PhasesOnlyMoveForward : Prop :=
  ∀ s t : State, step s = .next t →
    (s.phase = .page → t.phase ≠ .cmd) ∧
    (s.phase = .reset → t.phase = .reset ∨ t.phase = .idle) ∧
    (s.phase ≠ .idle → t.n = s.n ∧ t.pfx = s.pfx ∧ s.k ≤ t.k)

/-- The invariant of `State.Inv` (R14, R15, R17, R18, R25) is kept by every step from every state. -/
def Obligations.StepKeepsInvariant : Prop :=
  ∀ s t : State, s.Inv → step s = .next t → t.Inv

/-- The invariant holds after reset. -/
def Obligations.ResetSatisfiesInvariant : Prop := State.reset.Inv
end

