-- ==== Sys2Proof/Laws/Bytes.lean ====
section
/-! SUPPORT. The numerals behind the constants of 00_scope.md section 4, and splitting and joining 16-bit values (20_memory.md R21). -/

namespace Sys2Proof.Machine

@[simp] theorem pageBytes_eq : pageBytes = 32 := rfl
@[simp] theorem respBytes_eq : respBytes = 34 := rfl
@[simp] theorem spRespBytes_eq : spRespBytes = 35 := rfl
@[simp] theorem prefixBytes_eq : prefixBytes = 3 := rfl

/-- Joining the two bytes of a value gives it back. -/
@[simp] theorem le16_lo_hi (a : Word) : le16 (lo a) (hi a) = a := by
  unfold le16 lo hi zext16
  ext i hi
  rcases Nat.lt_or_ge i 8 with h | h
  · simp [h, BitVec.getLsbD_eq_getElem, hi]
  · simp [show ¬ i < 8 by omega, show i - 8 < 8 by omega, show 8 + (i - 8) = i by omega,
      BitVec.getLsbD_eq_getElem, hi]

end Sys2Proof.Machine
end

