-- ==== Sys2Proof/Laws/Frames.lean ====
section
/-! SUPPORT. The parts of the frame that `makePage` builds (95_test_vectors.md, 42_frame_decode.md R70, R76). -/

namespace Sys2Proof.Machine

variable {first : Bool} {pfx d : Bytes}

theorem makePage_length (h : d.length = 32) : (makePage first pfx d).length = 34 := by
  simp [makePage, h]

theorem frameData_makePage (h : d.length = 32) : frameData (makePage first pfx d) = d := by
  simp [frameData, makePage, h]

theorem frameRx_makePage (h : d.length = 32) :
    frameRx (makePage first pfx d) = ~~~(checksum (context first pfx d)) := by
  simp [frameRx, makePage, h]

/-- The frame built for a context passes the test of that context. -/
theorem makePage_passes (h : d.length = 32) :
    checkPasses (frameRx (makePage first pfx d)) (frameChecksum first pfx (makePage first pfx d)) = true := by
  simp [checkPasses, frameRx_makePage h, frameChecksum, frameData_makePage h]

end Sys2Proof.Machine
end

