-- ==== Sys2Proof/Laws/State.lean ====
section
/-! SUPPORT. One lemma per field for each named update of State: what it writes and what it leaves. -/

namespace Sys2Proof.Machine

variable (s : State)

@[simp] theorem State.setCrc_crc (c : Word) : (s.setCrc c).crc = c := rfl
@[simp] theorem State.setCrc_txBuf (c : Word) : (s.setCrc c).txBuf = s.txBuf := rfl
@[simp] theorem State.setCrc_pfx (c : Word) : (s.setCrc c).pfx = s.pfx := rfl
@[simp] theorem State.setCrc_first (c : Word) : (s.setCrc c).first = s.first := rfl
@[simp] theorem State.setCrc_k (c : Word) : (s.setCrc c).k = s.k := rfl
@[simp] theorem State.setCrc_n (c : Word) : (s.setCrc c).n = s.n := rfl
@[simp] theorem State.setCrc_rxBuf (c : Word) : (s.setCrc c).rxBuf = s.rxBuf := rfl
@[simp] theorem State.setCrc_blk (c : Word) : (s.setCrc c).blk = s.blk := rfl
@[simp] theorem State.setCrc_phase (c : Word) : (s.setCrc c).phase = s.phase := rfl
@[simp] theorem State.setCrc_status (c : Word) : (s.setCrc c).status = s.status := rfl
@[simp] theorem State.setCrc_rdErr (c : Word) : (s.setCrc c).rdErr = s.rdErr := rfl
@[simp] theorem State.setCrc_waiting (c : Word) : (s.setCrc c).waiting = s.waiting := rfl
@[simp] theorem State.setCrc_hostIn (c : Word) : (s.setCrc c).hostIn = s.hostIn := rfl
@[simp] theorem State.setCrc_hostOut (c : Word) : (s.setCrc c).hostOut = s.hostOut := rfl
@[simp] theorem State.setCrc_wrIn (c : Word) : (s.setCrc c).wrIn = s.wrIn := rfl
@[simp] theorem State.setCrc_rdIn (c : Word) : (s.setCrc c).rdIn = s.rdIn := rfl
@[simp] theorem State.setCrc_history (c : Word) : (s.setCrc c).history = s.history := rfl

@[simp] theorem State.setTxBuf_crc (frame : Bytes) : (s.setTxBuf frame).crc = s.crc := rfl
@[simp] theorem State.setTxBuf_txBuf (frame : Bytes) : (s.setTxBuf frame).txBuf = frame := rfl
@[simp] theorem State.setTxBuf_pfx (frame : Bytes) : (s.setTxBuf frame).pfx = s.pfx := rfl
@[simp] theorem State.setTxBuf_first (frame : Bytes) : (s.setTxBuf frame).first = s.first := rfl
@[simp] theorem State.setTxBuf_k (frame : Bytes) : (s.setTxBuf frame).k = s.k := rfl
@[simp] theorem State.setTxBuf_n (frame : Bytes) : (s.setTxBuf frame).n = s.n := rfl
@[simp] theorem State.setTxBuf_rxBuf (frame : Bytes) : (s.setTxBuf frame).rxBuf = s.rxBuf := rfl
@[simp] theorem State.setTxBuf_blk (frame : Bytes) : (s.setTxBuf frame).blk = s.blk := rfl
@[simp] theorem State.setTxBuf_phase (frame : Bytes) : (s.setTxBuf frame).phase = s.phase := rfl
@[simp] theorem State.setTxBuf_status (frame : Bytes) : (s.setTxBuf frame).status = s.status := rfl
@[simp] theorem State.setTxBuf_rdErr (frame : Bytes) : (s.setTxBuf frame).rdErr = s.rdErr := rfl
@[simp] theorem State.setTxBuf_waiting (frame : Bytes) : (s.setTxBuf frame).waiting = s.waiting := rfl
@[simp] theorem State.setTxBuf_hostIn (frame : Bytes) : (s.setTxBuf frame).hostIn = s.hostIn := rfl
@[simp] theorem State.setTxBuf_hostOut (frame : Bytes) : (s.setTxBuf frame).hostOut = s.hostOut := rfl
@[simp] theorem State.setTxBuf_wrIn (frame : Bytes) : (s.setTxBuf frame).wrIn = s.wrIn := rfl
@[simp] theorem State.setTxBuf_rdIn (frame : Bytes) : (s.setTxBuf frame).rdIn = s.rdIn := rfl
@[simp] theorem State.setTxBuf_history (frame : Bytes) : (s.setTxBuf frame).history = s.history := rfl

@[simp] theorem State.setRxBuf_crc (bs : Bytes) : (s.setRxBuf bs).crc = s.crc := rfl
@[simp] theorem State.setRxBuf_txBuf (bs : Bytes) : (s.setRxBuf bs).txBuf = s.txBuf := rfl
@[simp] theorem State.setRxBuf_pfx (bs : Bytes) : (s.setRxBuf bs).pfx = s.pfx := rfl
@[simp] theorem State.setRxBuf_first (bs : Bytes) : (s.setRxBuf bs).first = s.first := rfl
@[simp] theorem State.setRxBuf_k (bs : Bytes) : (s.setRxBuf bs).k = s.k := rfl
@[simp] theorem State.setRxBuf_n (bs : Bytes) : (s.setRxBuf bs).n = s.n := rfl
@[simp] theorem State.setRxBuf_rxBuf (bs : Bytes) : (s.setRxBuf bs).rxBuf = bs ++ s.rxBuf.drop bs.length := rfl
@[simp] theorem State.setRxBuf_blk (bs : Bytes) : (s.setRxBuf bs).blk = s.blk := rfl
@[simp] theorem State.setRxBuf_phase (bs : Bytes) : (s.setRxBuf bs).phase = s.phase := rfl
@[simp] theorem State.setRxBuf_status (bs : Bytes) : (s.setRxBuf bs).status = s.status := rfl
@[simp] theorem State.setRxBuf_rdErr (bs : Bytes) : (s.setRxBuf bs).rdErr = s.rdErr := rfl
@[simp] theorem State.setRxBuf_waiting (bs : Bytes) : (s.setRxBuf bs).waiting = s.waiting := rfl
@[simp] theorem State.setRxBuf_hostIn (bs : Bytes) : (s.setRxBuf bs).hostIn = s.hostIn := rfl
@[simp] theorem State.setRxBuf_hostOut (bs : Bytes) : (s.setRxBuf bs).hostOut = s.hostOut := rfl
@[simp] theorem State.setRxBuf_wrIn (bs : Bytes) : (s.setRxBuf bs).wrIn = s.wrIn := rfl
@[simp] theorem State.setRxBuf_rdIn (bs : Bytes) : (s.setRxBuf bs).rdIn = s.rdIn := rfl
@[simp] theorem State.setRxBuf_history (bs : Bytes) : (s.setRxBuf bs).history = s.history := rfl

@[simp] theorem State.setPhase_crc (ph : Phase) : (s.setPhase ph).crc = s.crc := rfl
@[simp] theorem State.setPhase_txBuf (ph : Phase) : (s.setPhase ph).txBuf = s.txBuf := rfl
@[simp] theorem State.setPhase_pfx (ph : Phase) : (s.setPhase ph).pfx = s.pfx := rfl
@[simp] theorem State.setPhase_first (ph : Phase) : (s.setPhase ph).first = s.first := rfl
@[simp] theorem State.setPhase_k (ph : Phase) : (s.setPhase ph).k = s.k := rfl
@[simp] theorem State.setPhase_n (ph : Phase) : (s.setPhase ph).n = s.n := rfl
@[simp] theorem State.setPhase_rxBuf (ph : Phase) : (s.setPhase ph).rxBuf = s.rxBuf := rfl
@[simp] theorem State.setPhase_blk (ph : Phase) : (s.setPhase ph).blk = s.blk := rfl
@[simp] theorem State.setPhase_phase (ph : Phase) : (s.setPhase ph).phase = ph := rfl
@[simp] theorem State.setPhase_status (ph : Phase) : (s.setPhase ph).status = s.status := rfl
@[simp] theorem State.setPhase_rdErr (ph : Phase) : (s.setPhase ph).rdErr = s.rdErr := rfl
@[simp] theorem State.setPhase_waiting (ph : Phase) : (s.setPhase ph).waiting = s.waiting := rfl
@[simp] theorem State.setPhase_hostIn (ph : Phase) : (s.setPhase ph).hostIn = s.hostIn := rfl
@[simp] theorem State.setPhase_hostOut (ph : Phase) : (s.setPhase ph).hostOut = s.hostOut := rfl
@[simp] theorem State.setPhase_wrIn (ph : Phase) : (s.setPhase ph).wrIn = s.wrIn := rfl
@[simp] theorem State.setPhase_rdIn (ph : Phase) : (s.setPhase ph).rdIn = s.rdIn := rfl
@[simp] theorem State.setPhase_history (ph : Phase) : (s.setPhase ph).history = s.history := rfl

@[simp] theorem State.setRdErr_crc (e : Option OpError) : (s.setRdErr e).crc = s.crc := rfl
@[simp] theorem State.setRdErr_txBuf (e : Option OpError) : (s.setRdErr e).txBuf = s.txBuf := rfl
@[simp] theorem State.setRdErr_pfx (e : Option OpError) : (s.setRdErr e).pfx = s.pfx := rfl
@[simp] theorem State.setRdErr_first (e : Option OpError) : (s.setRdErr e).first = s.first := rfl
@[simp] theorem State.setRdErr_k (e : Option OpError) : (s.setRdErr e).k = s.k := rfl
@[simp] theorem State.setRdErr_n (e : Option OpError) : (s.setRdErr e).n = s.n := rfl
@[simp] theorem State.setRdErr_rxBuf (e : Option OpError) : (s.setRdErr e).rxBuf = s.rxBuf := rfl
@[simp] theorem State.setRdErr_blk (e : Option OpError) : (s.setRdErr e).blk = s.blk := rfl
@[simp] theorem State.setRdErr_phase (e : Option OpError) : (s.setRdErr e).phase = s.phase := rfl
@[simp] theorem State.setRdErr_status (e : Option OpError) : (s.setRdErr e).status = s.status := rfl
@[simp] theorem State.setRdErr_rdErr (e : Option OpError) : (s.setRdErr e).rdErr = e := rfl
@[simp] theorem State.setRdErr_waiting (e : Option OpError) : (s.setRdErr e).waiting = s.waiting := rfl
@[simp] theorem State.setRdErr_hostIn (e : Option OpError) : (s.setRdErr e).hostIn = s.hostIn := rfl
@[simp] theorem State.setRdErr_hostOut (e : Option OpError) : (s.setRdErr e).hostOut = s.hostOut := rfl
@[simp] theorem State.setRdErr_wrIn (e : Option OpError) : (s.setRdErr e).wrIn = s.wrIn := rfl
@[simp] theorem State.setRdErr_rdIn (e : Option OpError) : (s.setRdErr e).rdIn = s.rdIn := rfl
@[simp] theorem State.setRdErr_history (e : Option OpError) : (s.setRdErr e).history = s.history := rfl

@[simp] theorem State.setWaiting_crc (w : Option Waiting) : (s.setWaiting w).crc = s.crc := rfl
@[simp] theorem State.setWaiting_txBuf (w : Option Waiting) : (s.setWaiting w).txBuf = s.txBuf := rfl
@[simp] theorem State.setWaiting_pfx (w : Option Waiting) : (s.setWaiting w).pfx = s.pfx := rfl
@[simp] theorem State.setWaiting_first (w : Option Waiting) : (s.setWaiting w).first = s.first := rfl
@[simp] theorem State.setWaiting_k (w : Option Waiting) : (s.setWaiting w).k = s.k := rfl
@[simp] theorem State.setWaiting_n (w : Option Waiting) : (s.setWaiting w).n = s.n := rfl
@[simp] theorem State.setWaiting_rxBuf (w : Option Waiting) : (s.setWaiting w).rxBuf = s.rxBuf := rfl
@[simp] theorem State.setWaiting_blk (w : Option Waiting) : (s.setWaiting w).blk = s.blk := rfl
@[simp] theorem State.setWaiting_phase (w : Option Waiting) : (s.setWaiting w).phase = s.phase := rfl
@[simp] theorem State.setWaiting_status (w : Option Waiting) : (s.setWaiting w).status = s.status := rfl
@[simp] theorem State.setWaiting_rdErr (w : Option Waiting) : (s.setWaiting w).rdErr = s.rdErr := rfl
@[simp] theorem State.setWaiting_waiting (w : Option Waiting) : (s.setWaiting w).waiting = w := rfl
@[simp] theorem State.setWaiting_hostIn (w : Option Waiting) : (s.setWaiting w).hostIn = s.hostIn := rfl
@[simp] theorem State.setWaiting_hostOut (w : Option Waiting) : (s.setWaiting w).hostOut = s.hostOut := rfl
@[simp] theorem State.setWaiting_wrIn (w : Option Waiting) : (s.setWaiting w).wrIn = s.wrIn := rfl
@[simp] theorem State.setWaiting_rdIn (w : Option Waiting) : (s.setWaiting w).rdIn = s.rdIn := rfl
@[simp] theorem State.setWaiting_history (w : Option Waiting) : (s.setWaiting w).history = s.history := rfl

@[simp] theorem State.setHostIn_crc (h : List HostInput) : (s.setHostIn h).crc = s.crc := rfl
@[simp] theorem State.setHostIn_txBuf (h : List HostInput) : (s.setHostIn h).txBuf = s.txBuf := rfl
@[simp] theorem State.setHostIn_pfx (h : List HostInput) : (s.setHostIn h).pfx = s.pfx := rfl
@[simp] theorem State.setHostIn_first (h : List HostInput) : (s.setHostIn h).first = s.first := rfl
@[simp] theorem State.setHostIn_k (h : List HostInput) : (s.setHostIn h).k = s.k := rfl
@[simp] theorem State.setHostIn_n (h : List HostInput) : (s.setHostIn h).n = s.n := rfl
@[simp] theorem State.setHostIn_rxBuf (h : List HostInput) : (s.setHostIn h).rxBuf = s.rxBuf := rfl
@[simp] theorem State.setHostIn_blk (h : List HostInput) : (s.setHostIn h).blk = s.blk := rfl
@[simp] theorem State.setHostIn_phase (h : List HostInput) : (s.setHostIn h).phase = s.phase := rfl
@[simp] theorem State.setHostIn_status (h : List HostInput) : (s.setHostIn h).status = s.status := rfl
@[simp] theorem State.setHostIn_rdErr (h : List HostInput) : (s.setHostIn h).rdErr = s.rdErr := rfl
@[simp] theorem State.setHostIn_waiting (h : List HostInput) : (s.setHostIn h).waiting = s.waiting := rfl
@[simp] theorem State.setHostIn_hostIn (h : List HostInput) : (s.setHostIn h).hostIn = h := rfl
@[simp] theorem State.setHostIn_hostOut (h : List HostInput) : (s.setHostIn h).hostOut = s.hostOut := rfl
@[simp] theorem State.setHostIn_wrIn (h : List HostInput) : (s.setHostIn h).wrIn = s.wrIn := rfl
@[simp] theorem State.setHostIn_rdIn (h : List HostInput) : (s.setHostIn h).rdIn = s.rdIn := rfl
@[simp] theorem State.setHostIn_history (h : List HostInput) : (s.setHostIn h).history = s.history := rfl

@[simp] theorem State.wrote_crc (bs : Bytes) (a : WriteAnswer) (rest : List WriteAnswer) : (s.wrote bs a rest).crc = s.crc := rfl
@[simp] theorem State.wrote_txBuf (bs : Bytes) (a : WriteAnswer) (rest : List WriteAnswer) : (s.wrote bs a rest).txBuf = s.txBuf := rfl
@[simp] theorem State.wrote_pfx (bs : Bytes) (a : WriteAnswer) (rest : List WriteAnswer) : (s.wrote bs a rest).pfx = s.pfx := rfl
@[simp] theorem State.wrote_first (bs : Bytes) (a : WriteAnswer) (rest : List WriteAnswer) : (s.wrote bs a rest).first = s.first := rfl
@[simp] theorem State.wrote_k (bs : Bytes) (a : WriteAnswer) (rest : List WriteAnswer) : (s.wrote bs a rest).k = s.k := rfl
@[simp] theorem State.wrote_n (bs : Bytes) (a : WriteAnswer) (rest : List WriteAnswer) : (s.wrote bs a rest).n = s.n := rfl
@[simp] theorem State.wrote_rxBuf (bs : Bytes) (a : WriteAnswer) (rest : List WriteAnswer) : (s.wrote bs a rest).rxBuf = s.rxBuf := rfl
@[simp] theorem State.wrote_blk (bs : Bytes) (a : WriteAnswer) (rest : List WriteAnswer) : (s.wrote bs a rest).blk = s.blk := rfl
@[simp] theorem State.wrote_phase (bs : Bytes) (a : WriteAnswer) (rest : List WriteAnswer) : (s.wrote bs a rest).phase = s.phase := rfl
@[simp] theorem State.wrote_status (bs : Bytes) (a : WriteAnswer) (rest : List WriteAnswer) : (s.wrote bs a rest).status = s.status := rfl
@[simp] theorem State.wrote_rdErr (bs : Bytes) (a : WriteAnswer) (rest : List WriteAnswer) : (s.wrote bs a rest).rdErr = s.rdErr := rfl
@[simp] theorem State.wrote_waiting (bs : Bytes) (a : WriteAnswer) (rest : List WriteAnswer) : (s.wrote bs a rest).waiting = s.waiting := rfl
@[simp] theorem State.wrote_hostIn (bs : Bytes) (a : WriteAnswer) (rest : List WriteAnswer) : (s.wrote bs a rest).hostIn = s.hostIn := rfl
@[simp] theorem State.wrote_hostOut (bs : Bytes) (a : WriteAnswer) (rest : List WriteAnswer) : (s.wrote bs a rest).hostOut = s.hostOut := rfl
@[simp] theorem State.wrote_wrIn (bs : Bytes) (a : WriteAnswer) (rest : List WriteAnswer) : (s.wrote bs a rest).wrIn = rest := rfl
@[simp] theorem State.wrote_rdIn (bs : Bytes) (a : WriteAnswer) (rest : List WriteAnswer) : (s.wrote bs a rest).rdIn = s.rdIn := rfl
@[simp] theorem State.wrote_history (bs : Bytes) (a : WriteAnswer) (rest : List WriteAnswer) : (s.wrote bs a rest).history = s.history ++ [.w bs a] := rfl

@[simp] theorem State.read_crc (m : Nat) (a : ReadAnswer) (rest : List RxItem) : (s.read m a rest).crc = s.crc := rfl
@[simp] theorem State.read_txBuf (m : Nat) (a : ReadAnswer) (rest : List RxItem) : (s.read m a rest).txBuf = s.txBuf := rfl
@[simp] theorem State.read_pfx (m : Nat) (a : ReadAnswer) (rest : List RxItem) : (s.read m a rest).pfx = s.pfx := rfl
@[simp] theorem State.read_first (m : Nat) (a : ReadAnswer) (rest : List RxItem) : (s.read m a rest).first = s.first := rfl
@[simp] theorem State.read_k (m : Nat) (a : ReadAnswer) (rest : List RxItem) : (s.read m a rest).k = s.k := rfl
@[simp] theorem State.read_n (m : Nat) (a : ReadAnswer) (rest : List RxItem) : (s.read m a rest).n = s.n := rfl
@[simp] theorem State.read_rxBuf (m : Nat) (a : ReadAnswer) (rest : List RxItem) : (s.read m a rest).rxBuf = s.rxBuf := rfl
@[simp] theorem State.read_blk (m : Nat) (a : ReadAnswer) (rest : List RxItem) : (s.read m a rest).blk = s.blk := rfl
@[simp] theorem State.read_phase (m : Nat) (a : ReadAnswer) (rest : List RxItem) : (s.read m a rest).phase = s.phase := rfl
@[simp] theorem State.read_status (m : Nat) (a : ReadAnswer) (rest : List RxItem) : (s.read m a rest).status = s.status := rfl
@[simp] theorem State.read_rdErr (m : Nat) (a : ReadAnswer) (rest : List RxItem) : (s.read m a rest).rdErr = s.rdErr := rfl
@[simp] theorem State.read_waiting (m : Nat) (a : ReadAnswer) (rest : List RxItem) : (s.read m a rest).waiting = s.waiting := rfl
@[simp] theorem State.read_hostIn (m : Nat) (a : ReadAnswer) (rest : List RxItem) : (s.read m a rest).hostIn = s.hostIn := rfl
@[simp] theorem State.read_hostOut (m : Nat) (a : ReadAnswer) (rest : List RxItem) : (s.read m a rest).hostOut = s.hostOut := rfl
@[simp] theorem State.read_wrIn (m : Nat) (a : ReadAnswer) (rest : List RxItem) : (s.read m a rest).wrIn = s.wrIn := rfl
@[simp] theorem State.read_rdIn (m : Nat) (a : ReadAnswer) (rest : List RxItem) : (s.read m a rest).rdIn = rest := rfl
@[simp] theorem State.read_history (m : Nat) (a : ReadAnswer) (rest : List RxItem) : (s.read m a rest).history = s.history ++ [.r m a] := rfl

@[simp] theorem State.feed_crc (ws : List WriteAnswer) (rs : List RxItem) : (s.feed ws rs).crc = s.crc := rfl
@[simp] theorem State.feed_txBuf (ws : List WriteAnswer) (rs : List RxItem) : (s.feed ws rs).txBuf = s.txBuf := rfl
@[simp] theorem State.feed_pfx (ws : List WriteAnswer) (rs : List RxItem) : (s.feed ws rs).pfx = s.pfx := rfl
@[simp] theorem State.feed_first (ws : List WriteAnswer) (rs : List RxItem) : (s.feed ws rs).first = s.first := rfl
@[simp] theorem State.feed_k (ws : List WriteAnswer) (rs : List RxItem) : (s.feed ws rs).k = s.k := rfl
@[simp] theorem State.feed_n (ws : List WriteAnswer) (rs : List RxItem) : (s.feed ws rs).n = s.n := rfl
@[simp] theorem State.feed_rxBuf (ws : List WriteAnswer) (rs : List RxItem) : (s.feed ws rs).rxBuf = s.rxBuf := rfl
@[simp] theorem State.feed_blk (ws : List WriteAnswer) (rs : List RxItem) : (s.feed ws rs).blk = s.blk := rfl
@[simp] theorem State.feed_phase (ws : List WriteAnswer) (rs : List RxItem) : (s.feed ws rs).phase = s.phase := rfl
@[simp] theorem State.feed_status (ws : List WriteAnswer) (rs : List RxItem) : (s.feed ws rs).status = s.status := rfl
@[simp] theorem State.feed_rdErr (ws : List WriteAnswer) (rs : List RxItem) : (s.feed ws rs).rdErr = s.rdErr := rfl
@[simp] theorem State.feed_waiting (ws : List WriteAnswer) (rs : List RxItem) : (s.feed ws rs).waiting = s.waiting := rfl
@[simp] theorem State.feed_hostIn (ws : List WriteAnswer) (rs : List RxItem) : (s.feed ws rs).hostIn = s.hostIn := rfl
@[simp] theorem State.feed_hostOut (ws : List WriteAnswer) (rs : List RxItem) : (s.feed ws rs).hostOut = s.hostOut := rfl
@[simp] theorem State.feed_wrIn (ws : List WriteAnswer) (rs : List RxItem) : (s.feed ws rs).wrIn = s.wrIn ++ ws := rfl
@[simp] theorem State.feed_rdIn (ws : List WriteAnswer) (rs : List RxItem) : (s.feed ws rs).rdIn = s.rdIn ++ rs := rfl
@[simp] theorem State.feed_history (ws : List WriteAnswer) (rs : List RxItem) : (s.feed ws rs).history = s.history := rfl

@[simp] theorem deliver_crc (r : Result) : (deliver r s).crc = s.crc := rfl
@[simp] theorem deliver_txBuf (r : Result) : (deliver r s).txBuf = s.txBuf := rfl
@[simp] theorem deliver_pfx (r : Result) : (deliver r s).pfx = s.pfx := rfl
@[simp] theorem deliver_first (r : Result) : (deliver r s).first = s.first := rfl
@[simp] theorem deliver_k (r : Result) : (deliver r s).k = s.k := rfl
@[simp] theorem deliver_n (r : Result) : (deliver r s).n = s.n := rfl
@[simp] theorem deliver_rxBuf (r : Result) : (deliver r s).rxBuf = s.rxBuf := rfl
@[simp] theorem deliver_blk (r : Result) : (deliver r s).blk = s.blk := rfl
@[simp] theorem deliver_phase (r : Result) : (deliver r s).phase = s.phase := rfl
@[simp] theorem deliver_status (r : Result) : (deliver r s).status = statusOf r := rfl
@[simp] theorem deliver_rdErr (r : Result) : (deliver r s).rdErr = s.rdErr := rfl
@[simp] theorem deliver_waiting (r : Result) : (deliver r s).waiting = s.waiting := rfl
@[simp] theorem deliver_hostIn (r : Result) : (deliver r s).hostIn = s.hostIn := rfl
@[simp] theorem deliver_hostOut (r : Result) : (deliver r s).hostOut = s.hostOut ++ [r] := rfl
@[simp] theorem deliver_wrIn (r : Result) : (deliver r s).wrIn = s.wrIn := rfl
@[simp] theorem deliver_rdIn (r : Result) : (deliver r s).rdIn = s.rdIn := rfl
@[simp] theorem deliver_history (r : Result) : (deliver r s).history = s.history := rfl

@[simp] theorem latchRead_crc (p : Params) (addr : Word) (m : Nat) : (latchRead p addr m s).crc = s.crc := rfl
@[simp] theorem latchRead_txBuf (p : Params) (addr : Word) (m : Nat) : (latchRead p addr m s).txBuf = s.txBuf := rfl
@[simp] theorem latchRead_pfx (p : Params) (addr : Word) (m : Nat) : (latchRead p addr m s).pfx = (encRdMem p addr).take prefixBytes := rfl
@[simp] theorem latchRead_first (p : Params) (addr : Word) (m : Nat) : (latchRead p addr m s).first = true := rfl
@[simp] theorem latchRead_k (p : Params) (addr : Word) (m : Nat) : (latchRead p addr m s).k = 0 := rfl
@[simp] theorem latchRead_n (p : Params) (addr : Word) (m : Nat) : (latchRead p addr m s).n = m := rfl
@[simp] theorem latchRead_rxBuf (p : Params) (addr : Word) (m : Nat) : (latchRead p addr m s).rxBuf = s.rxBuf := rfl
@[simp] theorem latchRead_blk (p : Params) (addr : Word) (m : Nat) : (latchRead p addr m s).blk = [] := rfl
@[simp] theorem latchRead_phase (p : Params) (addr : Word) (m : Nat) : (latchRead p addr m s).phase = .cmd := rfl
@[simp] theorem latchRead_status (p : Params) (addr : Word) (m : Nat) : (latchRead p addr m s).status = s.status := rfl
@[simp] theorem latchRead_rdErr (p : Params) (addr : Word) (m : Nat) : (latchRead p addr m s).rdErr = none := rfl
@[simp] theorem latchRead_waiting (p : Params) (addr : Word) (m : Nat) : (latchRead p addr m s).waiting = s.waiting := rfl
@[simp] theorem latchRead_hostIn (p : Params) (addr : Word) (m : Nat) : (latchRead p addr m s).hostIn = s.hostIn := rfl
@[simp] theorem latchRead_hostOut (p : Params) (addr : Word) (m : Nat) : (latchRead p addr m s).hostOut = s.hostOut := rfl
@[simp] theorem latchRead_wrIn (p : Params) (addr : Word) (m : Nat) : (latchRead p addr m s).wrIn = s.wrIn := rfl
@[simp] theorem latchRead_rdIn (p : Params) (addr : Word) (m : Nat) : (latchRead p addr m s).rdIn = s.rdIn := rfl
@[simp] theorem latchRead_history (p : Params) (addr : Word) (m : Nat) : (latchRead p addr m s).history = s.history := rfl

@[simp] theorem acceptPage_crc (f : Bytes) : (acceptPage f s).crc = s.crc := rfl
@[simp] theorem acceptPage_txBuf (f : Bytes) : (acceptPage f s).txBuf = s.txBuf := rfl
@[simp] theorem acceptPage_pfx (f : Bytes) : (acceptPage f s).pfx = s.pfx := rfl
@[simp] theorem acceptPage_first (f : Bytes) : (acceptPage f s).first = false := rfl
@[simp] theorem acceptPage_k (f : Bytes) : (acceptPage f s).k = s.k + 1 := rfl
@[simp] theorem acceptPage_n (f : Bytes) : (acceptPage f s).n = s.n := rfl
@[simp] theorem acceptPage_rxBuf (f : Bytes) : (acceptPage f s).rxBuf = s.rxBuf := rfl
@[simp] theorem acceptPage_blk (f : Bytes) : (acceptPage f s).blk = s.blk ++ frameData f := rfl
@[simp] theorem acceptPage_phase (f : Bytes) : (acceptPage f s).phase = s.phase := rfl
@[simp] theorem acceptPage_status (f : Bytes) : (acceptPage f s).status = s.status := rfl
@[simp] theorem acceptPage_rdErr (f : Bytes) : (acceptPage f s).rdErr = s.rdErr := rfl
@[simp] theorem acceptPage_waiting (f : Bytes) : (acceptPage f s).waiting = s.waiting := rfl
@[simp] theorem acceptPage_hostIn (f : Bytes) : (acceptPage f s).hostIn = s.hostIn := rfl
@[simp] theorem acceptPage_hostOut (f : Bytes) : (acceptPage f s).hostOut = s.hostOut := rfl
@[simp] theorem acceptPage_wrIn (f : Bytes) : (acceptPage f s).wrIn = s.wrIn := rfl
@[simp] theorem acceptPage_rdIn (f : Bytes) : (acceptPage f s).rdIn = s.rdIn := rfl
@[simp] theorem acceptPage_history (f : Bytes) : (acceptPage f s).history = s.history := rfl

@[simp] theorem discardBlk_crc : (discardBlk s).crc = s.crc := rfl
@[simp] theorem discardBlk_txBuf : (discardBlk s).txBuf = s.txBuf := rfl
@[simp] theorem discardBlk_pfx : (discardBlk s).pfx = s.pfx := rfl
@[simp] theorem discardBlk_first : (discardBlk s).first = s.first := rfl
@[simp] theorem discardBlk_k : (discardBlk s).k = s.k := rfl
@[simp] theorem discardBlk_n : (discardBlk s).n = s.n := rfl
@[simp] theorem discardBlk_rxBuf : (discardBlk s).rxBuf = s.rxBuf := rfl
@[simp] theorem discardBlk_blk : (discardBlk s).blk = [] := rfl
@[simp] theorem discardBlk_phase : (discardBlk s).phase = s.phase := rfl
@[simp] theorem discardBlk_status : (discardBlk s).status = s.status := rfl
@[simp] theorem discardBlk_rdErr : (discardBlk s).rdErr = s.rdErr := rfl
@[simp] theorem discardBlk_waiting : (discardBlk s).waiting = s.waiting := rfl
@[simp] theorem discardBlk_hostIn : (discardBlk s).hostIn = s.hostIn := rfl
@[simp] theorem discardBlk_hostOut : (discardBlk s).hostOut = s.hostOut := rfl
@[simp] theorem discardBlk_wrIn : (discardBlk s).wrIn = s.wrIn := rfl
@[simp] theorem discardBlk_rdIn : (discardBlk s).rdIn = s.rdIn := rfl
@[simp] theorem discardBlk_history : (discardBlk s).history = s.history := rfl

@[simp] theorem placeCommand_crc (cmd : Bytes) : (placeCommand cmd s).crc = s.crc := rfl
@[simp] theorem placeCommand_txBuf (cmd : Bytes) : (placeCommand cmd s).txBuf = s.txBuf := rfl
@[simp] theorem placeCommand_pfx (cmd : Bytes) : (placeCommand cmd s).pfx = s.pfx := rfl
@[simp] theorem placeCommand_first (cmd : Bytes) : (placeCommand cmd s).first = s.first := rfl
@[simp] theorem placeCommand_k (cmd : Bytes) : (placeCommand cmd s).k = s.k := rfl
@[simp] theorem placeCommand_n (cmd : Bytes) : (placeCommand cmd s).n = s.n := rfl
@[simp] theorem placeCommand_rxBuf (cmd : Bytes) : (placeCommand cmd s).rxBuf = s.rxBuf := rfl
@[simp] theorem placeCommand_blk (cmd : Bytes) : (placeCommand cmd s).blk = s.blk := rfl
@[simp] theorem placeCommand_phase (cmd : Bytes) : (placeCommand cmd s).phase = .idle := rfl
@[simp] theorem placeCommand_status (cmd : Bytes) : (placeCommand cmd s).status = s.status := rfl
@[simp] theorem placeCommand_rdErr (cmd : Bytes) : (placeCommand cmd s).rdErr = s.rdErr := rfl
@[simp] theorem placeCommand_waiting (cmd : Bytes) : (placeCommand cmd s).waiting = none := rfl
@[simp] theorem placeCommand_hostIn (cmd : Bytes) : (placeCommand cmd s).hostIn = .command cmd :: s.hostIn := rfl
@[simp] theorem placeCommand_hostOut (cmd : Bytes) : (placeCommand cmd s).hostOut = s.hostOut := rfl
@[simp] theorem placeCommand_wrIn (cmd : Bytes) : (placeCommand cmd s).wrIn = s.wrIn := rfl
@[simp] theorem placeCommand_rdIn (cmd : Bytes) : (placeCommand cmd s).rdIn = s.rdIn := rfl
@[simp] theorem placeCommand_history (cmd : Bytes) : (placeCommand cmd s).history = s.history := rfl

@[simp] theorem State.txLen_eq : s.txLen = s.txBuf.length := rfl

/-! An operation's end, in terms of `deliver`. -/

@[simp] theorem succeed_eq (v : Value) : succeed v s = deliver (.ok v) s := rfl
@[simp] theorem raise_eq (e : OpError) : raise e s = deliver (.err e) s := rfl
@[simp] theorem refuse_eq :
    refuse s = deliver (.err { kind := .illegalOperation, page := none, resetFailed := none }) s := rfl
@[simp] theorem stage_eq (frame : Bytes) :
    stage frame s = deliver (.ok (.bytes frame)) (s.setTxBuf frame) := rfl
@[simp] theorem enterReset_eq (e : Option OpError) : enterReset e s = (s.setRdErr e).setPhase .reset := rfl
@[simp] theorem loadPage_eq (f : Bytes) :
    loadPage f s = (s.setRxBuf f).setCrc (frameChecksum s.first s.pfx f) := rfl

end Sys2Proof.Machine
end

