-- ==== Sys2Proof/Laws/Ops.lean ====
section
/-! SUPPORT. What the shared operations can do, said once: the channel primitives (20_memory.md R27, R28), the frame of a latched transaction, the end of an operation. -/

namespace Sys2Proof.Machine

/-- `ChWrite` waits exactly while the channel has not answered. -/
theorem chWrite_eq_none {bs : Bytes} {s : State} : chWrite bs s = none ↔ s.wrIn = [] := by
  unfold chWrite
  cases s.wrIn <;> simp

/-- An answered `ChWrite` consumes one answer and records one event. -/
theorem chWrite_eq_some {bs : Bytes} {s t : State} {a : WriteAnswer} :
    chWrite bs s = some (a, t) ↔ ∃ rest, s.wrIn = a :: rest ∧ t = s.wrote bs a rest := by
  unfold chWrite
  cases s.wrIn with
  | nil => simp
  | cons b rest =>
    simp only [Option.some.injEq, Prod.mk.injEq, List.cons.injEq]
    constructor
    · rintro ⟨rfl, rfl⟩
      exact ⟨rest, ⟨rfl, rfl⟩, rfl⟩
    · rintro ⟨_, ⟨rfl, rfl⟩, rfl⟩
      exact ⟨rfl, rfl⟩

/-- A read of `bs.length` bytes that are there delivers them, whatever follows. -/
theorem takeRead_bytes (bs : Bytes) (rest : List RxItem) :
    takeRead bs.length (bs.map .byte ++ rest) = some (.ok bs, rest) := by
  induction bs with
  | nil => rfl
  | cons b bs ih => simp [takeRead, ih]

/-- A failure met before the last byte wanted fails the read; the bytes before it are dropped (log 3). -/
theorem takeRead_fail (bs : Bytes) (e : IOError) (rest : List RxItem) {n : Nat} (h : bs.length < n) :
    takeRead n (bs.map .byte ++ .fail e :: rest) = some (.err e, rest) := by
  induction bs generalizing n with
  | nil =>
    cases n with
    | zero => simp at h
    | succ n => rfl
  | cons b bs ih =>
    cases n with
    | zero => simp at h
    | succ n => simp [takeRead, ih (Nat.lt_of_succ_lt_succ h)]

/-- Too few bytes and no failure: the read waits. -/
theorem takeRead_short (bs : Bytes) {n : Nat} (h : bs.length < n) : takeRead n (bs.map .byte) = none := by
  induction bs generalizing n with
  | nil =>
    cases n with
    | zero => simp at h
    | succ n => rfl
  | cons b bs ih =>
    cases n with
    | zero => simp at h
    | succ n => simp [takeRead, ih (Nat.lt_of_succ_lt_succ h)]

/-- The three things the incoming stream can hold for a read of `n` bytes. -/
theorem stream_cases (n : Nat) (items : List RxItem) :
    (∃ (bs : Bytes) (rest : List RxItem), bs.length = n ∧ items = bs.map .byte ++ rest) ∨
    (∃ (bs : Bytes) (e : IOError) (rest : List RxItem), bs.length < n ∧ items = bs.map .byte ++ .fail e :: rest) ∨
    (∃ bs : Bytes, bs.length < n ∧ items = bs.map .byte) := by
  induction n generalizing items with
  | zero => exact .inl ⟨[], items, rfl, rfl⟩
  | succ n ih =>
    cases items with
    | nil => exact .inr (.inr ⟨[], by simp, rfl⟩)
    | cons x items =>
      cases x with
      | fail e => exact .inr (.inl ⟨[], e, items, by simp, rfl⟩)
      | byte b =>
        obtain ⟨bs, rest, hl, rfl⟩ | ⟨bs, e, rest, hl, rfl⟩ | ⟨bs, hl, rfl⟩ := ih items
        · exact .inl ⟨b :: bs, rest, by simp [hl], rfl⟩
        · exact .inr (.inl ⟨b :: bs, e, rest, by simp [hl], rfl⟩)
        · exact .inr (.inr ⟨b :: bs, by simp [hl], rfl⟩)

/-- What `ChRead` does, said once: exactly the bytes asked for, or a failure, or a wait. -/
theorem chRead_cases (n : Nat) (s : State) :
    (∃ (bs : Bytes) (rest : List RxItem), bs.length = n ∧ s.rdIn = bs.map .byte ++ rest ∧
      chRead n s = some (.ok bs, s.read n (.ok bs) rest)) ∨
    (∃ (bs : Bytes) (e : IOError) (rest : List RxItem), bs.length < n ∧ s.rdIn = bs.map .byte ++ .fail e :: rest ∧
      chRead n s = some (.err e, s.read n (.err e) rest)) ∨
    (∃ bs : Bytes, bs.length < n ∧ s.rdIn = bs.map .byte ∧ chRead n s = none) := by
  obtain ⟨bs, rest, hl, h⟩ | ⟨bs, e, rest, hl, h⟩ | ⟨bs, hl, h⟩ := stream_cases n s.rdIn
  · subst hl
    exact .inl ⟨bs, rest, rfl, h, by simp [chRead, h, takeRead_bytes]⟩
  · exact .inr (.inl ⟨bs, e, rest, hl, h, by simp [chRead, h, takeRead_fail bs e rest hl]⟩)
  · exact .inr (.inr ⟨bs, hl, h, by simp [chRead, h, takeRead_short bs hl]⟩)

/-- `ChRead` of bytes that are there. -/
theorem chRead_bytes {s : State} {n : Nat} {bs : Bytes} {rest : List RxItem} (hl : bs.length = n)
    (h : s.rdIn = bs.map .byte ++ rest) : chRead n s = some (.ok bs, s.read n (.ok bs) rest) := by
  subst hl
  simp [chRead, h, takeRead_bytes]

/-- `ChRead` that meets a failure. -/
theorem chRead_fail {s : State} {n : Nat} {bs : Bytes} {e : IOError} {rest : List RxItem}
    (hl : bs.length < n) (h : s.rdIn = bs.map .byte ++ .fail e :: rest) :
    chRead n s = some (.err e, s.read n (.err e) rest) := by
  simp [chRead, h, takeRead_fail bs e rest hl]

/-- An answered read is not changed by what comes later on the stream. -/
theorem takeRead_append {n : Nat} {items rest more : List RxItem} {a : ReadAnswer}
    (h : takeRead n items = some (a, rest)) : takeRead n (items ++ more) = some (a, rest ++ more) := by
  obtain ⟨bs, r, hl, rfl⟩ | ⟨bs, e, r, hl, rfl⟩ | ⟨bs, hl, rfl⟩ := stream_cases n items
  · subst hl
    rw [takeRead_bytes] at h
    cases h
    rw [List.append_assoc, takeRead_bytes]
  · rw [takeRead_fail bs e r hl] at h
    cases h
    rw [List.append_assoc, List.cons_append, takeRead_fail bs e _ hl]
  · rw [takeRead_short bs hl] at h
    cases h

/-- The frame READMEM writes is `EncRdMem(addr)` (R83): `PFX` and the filler make it up. -/
theorem latchRead_frame (p : Params) (addr : Word) (n : Nat) (s : State) :
    readFrame p (latchRead p addr n s) = encRdMem p addr := rfl

/-- The prefix latched by READMEM: opcode and address, low byte first (42_frame_decode.md R75). -/
theorem latchRead_pfx_eq (p : Params) (addr : Word) (n : Nat) (s : State) :
    (latchRead p addr n s).pfx = [p.opRdMem, lo addr, hi addr] := rfl

/-- The read-scratchpad frame, where there is one, has 1 to 35 bytes (R53). -/
theorem encRdSp_length {p : Params} {frame : Bytes} (h : encRdSp p = some frame) :
    1 ≤ frame.length ∧ frame.length ≤ 35 := by
  unfold encRdSp at h
  rcases hr : p.rdSpRest with _ | ⟨rest, hl⟩ <;> simp [hr] at h
  subst h
  simp
  omega

@[simp] theorem encRdMem_length (p : Params) (addr : Word) : (encRdMem p addr).length = 11 := by
  simp [encRdMem]

@[simp] theorem encCpySp_length (p : Params) (addr : Word) : (encCpySp p addr).length = 12 := by
  simp [encCpySp]

@[simp] theorem encTen_length (op : Byte) : (encTen op).length = 10 := by
  simp [encTen]

@[simp] theorem encWrSp_length (p : Params) (addr : Word) (data : Bytes) :
    (encWrSp p addr data).length = data.length + 3 := by
  simp [encWrSp]

/-- One page is allowed whatever `P_MAX_PAGES` is: it is positive, or there is no bound (R5). -/
theorem pagesAllowed_one (p : Params) : pagesAllowed p 1 = true := by
  unfold pagesAllowed
  rcases p.maxPages with _ | ⟨m, hm⟩
  · rfl
  · simp
    omega

/-- Writing a received frame keeps `RXBUF` within its 35 bytes (R18). -/
theorem setRxBuf_length_le {bs : Bytes} {s : State} (hb : bs.length ≤ 35) (h : s.rxBuf.length ≤ 35) :
    (s.setRxBuf bs).rxBuf.length ≤ 35 := by
  simp
  omega

/-- What `resetPhase` does, said once: it waits, or the bus reset is written and the transaction ends. -/
theorem resetPhase_cases (s : State) :
    (s.wrIn = [] ∧ resetPhase s = s) ∨
    (∃ rr rest, s.wrIn = rr :: rest ∧ resetPhase s = finishRead rr (s.wrote [] rr rest)) := by
  unfold resetPhase chWrite
  cases s.wrIn with
  | nil => exact .inl ⟨rfl, rfl⟩
  | cons rr rest => exact .inr ⟨rr, rest, rfl, rfl⟩

/-- What `finishRead` does, said once: one result, the block idle, nothing pending. -/
theorem finishRead_cases (rr : WriteAnswer) (s : State) :
    (s.rdErr = none ∧ rr = .ok ∧
      finishRead rr s = deliver (.ok (.bytes s.blk)) ((s.setRdErr none).setPhase .idle)) ∨
    (∃ e : OpError, finishRead rr s = deliver (.err e) (discardBlk ((s.setRdErr none).setPhase .idle))) := by
  cases h : s.rdErr with
  | none =>
    cases rr with
    | ok => exact .inl ⟨rfl, rfl, by simp [finishRead, h]⟩
    | err e => exact .inr ⟨⟨.channelError e, none, some true⟩, by simp [finishRead, h]⟩
  | some e =>
    cases rr with
    | ok => exact .inr ⟨⟨e.kind, e.page, some false⟩, by simp [finishRead, h]⟩
    | err e' => exact .inr ⟨⟨e.kind, e.page, some true⟩, by simp [finishRead, h]⟩

/-- What `writeAndReport` does, said once. -/
theorem writeAndReport_cases (w : Waiting) (bs : Bytes) (s : State) :
    (s.wrIn = [] ∧ writeAndReport w bs s = s.setWaiting (some w)) ∨
    (∃ rest, s.wrIn = .ok :: rest ∧ writeAndReport w bs s = deliver (.ok .unit) (s.wrote bs .ok rest)) ∨
    (∃ e rest, s.wrIn = .err e :: rest ∧
      writeAndReport w bs s = deliver (.err ⟨.channelError e, none, none⟩) (s.wrote bs (.err e) rest)) := by
  unfold writeAndReport chWrite
  cases s.wrIn with
  | nil => exact .inl ⟨rfl, rfl⟩
  | cons a rest =>
    cases a with
    | ok => exact .inr (.inl ⟨rest, rfl, rfl⟩)
    | err e => exact .inr (.inr ⟨e, rest, rfl, rfl⟩)

end Sys2Proof.Machine
end

