-- ==== Sys2Proof/Laws/PerInstr.lean ====
section
/-! SUPPORT. A fact of every operation's command, one lemma per constructor: an encodable operation's command begins with its selector and has the length R33's format gives it. -/

namespace Sys2Proof.Laws.CommandShape

open Sys2Proof.Machine (le16_lo_hi)

/-- The command begins with the selector, and `commandLength` reads its length from it (R33). -/
def Statement (i : Instr) : Prop :=
  i.encodable = true → (encode i).head? = some (selectorOf i) ∧ commandLength (encode i) = (encode i).length

theorem crcClr : Statement .crcClr := fun _ => ⟨rfl, rfl⟩
theorem crcUpd (b : Byte) : Statement (.crcUpd b) := fun _ => ⟨rfl, rfl⟩
theorem crcRd : Statement .crcRd := fun _ => ⟨rfl, rfl⟩
theorem checksum (bs : Bytes) : Statement (.checksum bs) := by
  intro h
  have h' : bs.length ≤ 65535 := by simpa [Instr.encodable] using h
  refine ⟨rfl, ?_⟩
  simp [commandLength, formatOf, encode, selectorOf, operandBytes, encode16, le16_lo_hi]
  omega
theorem encWrsp (addr : Word) (data : Bytes) : Statement (.encWrsp addr data) := by
  intro h
  have h' : data.length = 32 := by simpa [Instr.encodable] using h
  exact ⟨rfl, by simp [commandLength, formatOf, encode, selectorOf, operandBytes, encode16, h']⟩
theorem encCpysp (addr : Word) : Statement (.encCpysp addr) := fun _ => ⟨rfl, rfl⟩
theorem encRdsp : Statement .encRdsp := fun _ => ⟨rfl, rfl⟩
theorem encRdmem (addr : Word) : Statement (.encRdmem addr) := fun _ => ⟨rfl, rfl⟩
theorem encClrmem : Statement .encClrmem := fun _ => ⟨rfl, rfl⟩
theorem encStop : Statement .encStop := fun _ => ⟨rfl, rfl⟩
theorem encStart : Statement .encStart := fun _ => ⟨rfl, rfl⟩
theorem send : Statement .send := fun _ => ⟨rfl, rfl⟩
theorem decPage (first : Bool) (pfx f : Bytes) : Statement (.decPage first pfx f) := by
  intro h
  have h' : pfx.length = 3 ∧ f.length = 34 := by simpa [Instr.encodable] using h
  exact ⟨rfl, by simp [commandLength, formatOf, encode, selectorOf, operandBytes, h']⟩
theorem decSp (f : Bytes) : Statement (.decSp f) := by
  intro h
  have h' : f.length = 35 := by simpa [Instr.encodable] using h
  exact ⟨rfl, by simp [commandLength, formatOf, encode, selectorOf, operandBytes, h']⟩
theorem recvsp : Statement .recvsp := fun _ => ⟨rfl, rfl⟩
theorem readmem (addr : Word) (n : Nat) : Statement (.readmem addr n) := fun _ => ⟨rfl, rfl⟩
theorem busreset : Statement .busreset := fun _ => ⟨rfl, rfl⟩

end Sys2Proof.Laws.CommandShape
end

