-- ==== Sys2Proof/Laws/Transaction.lean ====
section
/-! SUPPORT. What phase PAGE of READMEM can do, said once: its steps (43_read_transaction.md R83, R84) and the induction over them. -/

namespace Sys2Proof.Machine

/-- The error of a page read that failed, or of a page that did not validate (R83). -/
abbrev pageError (kind : ErrKind) (s : State) : Option OpError :=
  some { kind := kind, page := some s.k, resetFailed := none }

theorem readPages_done (s : State) : readPages 0 s = resetPhase (enterReset none s) := rfl

theorem readPages_wait {fuel : Nat} {s : State} (h : chRead 34 s = none) : readPages (fuel + 1) s = s := by
  simp [readPages, h]

theorem readPages_fail {fuel : Nat} {s s' : State} {e : IOError} (h : chRead 34 s = some (.err e, s')) :
    readPages (fuel + 1) s = resetPhase (enterReset (pageError (.channelError e) s) s') := by
  simp [readPages, h]

theorem readPages_bad {fuel : Nat} {s s' : State} {f : Bytes} (h : chRead 34 s = some (.ok f, s'))
    (hc : checkPasses (frameRx f) (loadPage f s').crc = false) :
    readPages (fuel + 1) s = resetPhase (enterReset (pageError .checksumFault s) (loadPage f s')) := by
  simp only [readPages, h, hc]
  rfl

theorem readPages_good {fuel : Nat} {s s' : State} {f : Bytes} (h : chRead 34 s = some (.ok f, s'))
    (hc : checkPasses (frameRx f) (loadPage f s').crc = true) :
    readPages (fuel + 1) s = readPages fuel (acceptPage f (loadPage f s')) := by
  simp only [readPages, h, hc]
  rfl

/-- Induction over the pages of a transaction: `P fuel s` holds before each page with `fuel` pages to go,
and `Q` of every state the phase can end in. -/
theorem readPages_induction {P : Nat → State → Prop} {Q : State → Prop}
    (wait : ∀ fuel s, P (fuel + 1) s → chRead 34 s = none → Q s)
    (done : ∀ s, P 0 s → Q (resetPhase (enterReset none s)))
    (fail : ∀ fuel s e s', P (fuel + 1) s → chRead 34 s = some (.err e, s') →
      Q (resetPhase (enterReset (pageError (.channelError e) s) s')))
    (bad : ∀ fuel s f s', P (fuel + 1) s → chRead 34 s = some (.ok f, s') →
      checkPasses (frameRx f) (loadPage f s').crc = false →
      Q (resetPhase (enterReset (pageError .checksumFault s) (loadPage f s'))))
    (good : ∀ fuel s f s', P (fuel + 1) s → chRead 34 s = some (.ok f, s') →
      checkPasses (frameRx f) (loadPage f s').crc = true → P fuel (acceptPage f (loadPage f s'))) :
    ∀ fuel s, P fuel s → Q (readPages fuel s) := by
  intro fuel
  induction fuel with
  | zero => exact fun s h => done s h
  | succ fuel ih =>
    intro s h
    rcases hr : chRead 34 s with _ | ⟨_ | e, s'⟩
    · rw [readPages_wait hr]
      exact wait fuel s h hr
    · rename_i f
      cases hc : checkPasses (frameRx f) (loadPage f s').crc with
      | true =>
        rw [readPages_good hr hc]
        exact ih _ (good fuel s f s' h hr hc)
      | false =>
        rw [readPages_bad hr hc]
        exact bad fuel s f s' h hr hc
    · rw [readPages_fail hr]
      exact fail fuel s e s' h hr

/-- What phase CMD can do, said once: wait, go on to the pages, or reset after a failed write. -/
theorem cmdPhase_cases (p : Params) (s : State) :
    (s.wrIn = [] ∧ cmdPhase p s = s) ∨
    (∃ rest, s.wrIn = .ok :: rest ∧
      cmdPhase p s = readPages (s.n - s.k) ((s.wrote (readFrame p s) .ok rest).setPhase .page)) ∨
    (∃ e rest, s.wrIn = .err e :: rest ∧
      cmdPhase p s = resetPhase (enterReset (some ⟨.channelError e, some 0, none⟩)
        (s.wrote (readFrame p s) (.err e) rest))) := by
  unfold cmdPhase chWrite
  cases s.wrIn with
  | nil => exact .inl ⟨rfl, rfl⟩
  | cons a rest =>
    cases a with
    | ok => exact .inr (.inl ⟨rest, rfl, rfl⟩)
    | err e => exact .inr (.inr ⟨e, rest, rfl, rfl⟩)

end Sys2Proof.Machine
end

