-- ==== Sys2Proof/Tests/Slice0.lean ====
section
/-! SUPPORT. Tests: expected values from the spec's own examples and vectors (95_test_vectors.md, cited by id); the ill-formed terms that WellFormed refuses; the witnesses of the statements' hypotheses. -/

namespace Sys2Proof.Tests

open Sys2Proof Sys2Proof.Machine

/-! ### Fixtures -/

/-- `b, b+1, ...`, 32 bytes: INC0, INC20, INC40 of 95_test_vectors.md section 2.5. -/
def inc (b : Nat) : Bytes := (List.range 32).map fun j => BitVec.ofNat 8 (b + j)

/-- The non-normative parameter values of 00_scope.md R5, with a filler and a tail of this test's own. -/
def params : Params where
  opWrSp := 0x0F
  opCpySp := 0x99
  opRdSp := 0xAA
  opRdMem := 0x69
  opClrMem := 0x96
  opStop := 0x33
  opStart := 0xCC
  rdMemFill := #v[0xB0, 0xB1, 0xB2, 0xB3, 0xB4, 0xB5, 0xB6, 0xB7]
  cpySpTail := #v[0xC0, 0xC1, 0xC2, 0xC3, 0xC4, 0xC5, 0xC6, 0xC7]
  rdSpRest := none
  maxPages := none

/-- Reset, with these channel answers to come. -/
def withChannel (ws : List WriteAnswer) (rs : List RxItem) : State :=
  { State.reset with wrIn := ws, rdIn := rs }

/-- Reset, with these items on the host command port. -/
def withHost (h : List HostInput) : State := { State.reset with hostIn := h }

/-- Reset, with a staged frame. -/
def withFrame (ws : List WriteAnswer) : State :=
  { State.reset with txBuf := [0x33, 0, 0, 0, 0, 0, 0, 0, 0, 0xFF], wrIn := ws }

/-- The one channel error that exists whatever the parameter is. -/
def anError : IOError := ⟨⟨0, .inl rfl⟩⟩

/-- The operation or step answers the next state `t`. -/
def nextIs (o : Host.Outcome State Fault Refusal) (t : State) : Bool :=
  match o with
  | .next s => decide (s = t)
  | .fault _ => false
  | .refused _ => false

/-! ### Decoding, written out from R33 -/

theorem test_decode_crcClr : decode [0x01] = .ok .crcClr := by decide
theorem test_decode_crcUpd : decode [0x02, 0x39] = .ok (.crcUpd 0x39) := by decide
theorem test_decode_crcRd : decode [0x03] = .ok .crcRd := by decide
theorem test_decode_checksum : decode [0x04, 0x02, 0x00, 0x31, 0x32] = .ok (.checksum [0x31, 0x32]) := by decide
theorem test_decode_encWrsp :
    decode ([0x10, 0x00, 0x02] ++ inc 0) = .ok (.encWrsp 0x0200 (inc 0)) := by decide
theorem test_decode_encCpysp : decode [0x11, 0xCD, 0xAB] = .ok (.encCpysp 0xABCD) := by decide
theorem test_decode_encRdsp : decode [0x12] = .ok .encRdsp := by decide
theorem test_decode_encRdmem : decode [0x13, 0x34, 0x12] = .ok (.encRdmem 0x1234) := by decide
theorem test_decode_encClrmem : decode [0x14] = .ok .encClrmem := by decide
theorem test_decode_encStop : decode [0x15] = .ok .encStop := by decide
theorem test_decode_encStart : decode [0x16] = .ok .encStart := by decide
theorem test_decode_decPage :
    decode ([0x20, 0x01, 0x69, 0x00, 0x02] ++ inc 0 ++ [0xE9, 0xF3]) =
      .ok (.decPage true [0x69, 0x00, 0x02] (inc 0 ++ [0xE9, 0xF3])) := by decide
theorem test_decode_decSp :
    decode ([0x21] ++ inc 0 ++ [0x20, 0x21, 0x22]) = .ok (.decSp (inc 0 ++ [0x20, 0x21, 0x22])) := by decide
theorem test_decode_readmem : decode [0x30, 0x00, 0x10, 0x03, 0x00] = .ok (.readmem 0x1000 3) := by decide
theorem test_decode_send : decode [0x31] = .ok .send := by decide
theorem test_decode_busreset : decode [0x32] = .ok .busreset := by decide
theorem test_decode_recvsp : decode [0x33] = .ok .recvsp := by decide

theorem test_decode_rejects :
    decode [] = .error .noSelector ∧ decode [0x05] = .error (.reservedSelector 0x05) ∧
    decode [0x01, 0x00] = .error (.badLength 0x01) ∧ decode [0x30, 0x00, 0x02, 0x03] = .error (.badLength 0x30) ∧
    decode [0x04, 0x02, 0x00, 0x31] = .error (.badLength 0x04) ∧
    decode ([0x20, 0x02, 0x69, 0x00, 0x02] ++ inc 0 ++ [0xE9, 0xF3]) = .error (.firstNotBit 0x02) := by decide

/-- An opcode-table word alone: operand bytes of zeros up to the format's length (log 19). -/
theorem test_tableWord :
    decodeTableWord 8 0x30 = some (.readmem 0 0) ∧ decodeTableWord 8 0x04 = some (.checksum []) ∧
    decodeTableWord 8 0x20 = some (.decPage false [0, 0, 0] (List.replicate 34 0)) ∧
    decodeTableWord 40 0x0003020030 = some (.readmem 0x0200 3) ∧ decodeTableWord 8 0x05 = none := by decide

theorem test_fetchWord_runs_first :
    nextIs (step (State.reset.withFetchWord 16 0x3102))
      { State.reset with crc := 0xD4C1, hostOut := [.ok .unit] } = true := by decide +kernel

/-! ### WellFormed refuses an ill-formed term for each of its checks -/

theorem test_wellFormed_checks :
    (Instr.encWrsp 0x0200 (List.replicate 31 0)).wellFormed = false ∧
    (Instr.decPage true [0x69, 0x00] (List.replicate 34 0)).wellFormed = false ∧
    (Instr.decPage true [0x69, 0x00, 0x02] (List.replicate 33 0)).wellFormed = false ∧
    (Instr.decSp (List.replicate 34 0)).wellFormed = false ∧
    (Instr.readmem 0x0200 65536).wellFormed = false ∧
    (Instr.readmem 0x0200 0).wellFormed = false ∧
    (Instr.readmem 0x0200 65535).wellFormed = true := by decide

theorem test_wellFormed_checksum_length :
    ∀ bs : Bytes, bs.length = 65536 → (Instr.checksum bs).wellFormed = false := by
  intro bs h
  simp [Instr.wellFormed, Instr.encodable, h]

/-! ### The checksum (vectors of sections 2.1 to 2.3) -/

theorem test_crcBit : crcBit 0x0003 = 0xA000 ∧ crcBit 0x8000 = 0x4000 ∧ crcBit 0xFFFE = 0x7FFF ∧
    crcBit 0xFFFF = 0xDFFE ∧ crcBit 0xA001 = 0xF001 := by decide

theorem test_crcByte : crcByte 0x0000 0x31 = 0xD4C1 ∧ crcByte 0x1234 0x00 = 0xD713 ∧
    crcByte 0xFFFF 0x00 = 0x40BF ∧ crcByte 0xBB3D 0x3D = 0x00BB := by decide +kernel

/-- The spec's pinned vector, S1 and V1. -/
theorem test_checksum_pinned :
    checksum [0x31, 0x32, 0x33, 0x34, 0x35, 0x36, 0x37, 0x38, 0x39] = 0xBB3D := by decide +kernel

/-- V10, V14, V23. -/
theorem test_checksum_order : checksum [0x01, 0x00] = 0x9001 ∧ checksum (inc 0) = 0xC36A ∧
    checksum [0x69, 0x00, 0x10] = 0xD0D1 := by decide +kernel

/-- P1 from a state that is not reset: the first and the last command. -/
theorem test_exec_crc :
    nextIs (exec (.crcUpd 0x32) { State.reset with crc := 0xD4C1 })
      { State.reset with crc := 0x4594, hostOut := [.ok .unit] } = true ∧
    nextIs (exec .crcRd { State.reset with crc := 0xBB3D })
      { State.reset with crc := 0xBB3D, hostOut := [.ok (.word 0xBB3D)] } = true ∧
    nextIs (exec .crcClr { State.reset with crc := 0xBB3D })
      { State.reset with hostOut := [.ok .unit] } = true := by
  decide +kernel

/-! ### Frames (vectors V30 to V42) -/

theorem test_frames_addressed :
    encRdMem params 0x1234 = [0x69, 0x34, 0x12, 0xB0, 0xB1, 0xB2, 0xB3, 0xB4, 0xB5, 0xB6, 0xB7] ∧
    encCpySp params 0xABCD = [0x99, 0xCD, 0xAB, 0x1F, 0xC0, 0xC1, 0xC2, 0xC3, 0xC4, 0xC5, 0xC6, 0xC7] ∧
    encWrSp params 0x0200 (inc 0) = [0x0F, 0x00, 0x02] ++ inc 0 := by decide

theorem test_frames_ten :
    encClrMem params = [0x96, 0, 0, 0, 0, 0, 0, 0, 0, 0xFF] ∧
    encStop params = [0x33, 0, 0, 0, 0, 0, 0, 0, 0, 0xFF] ∧
    encStart params = [0xCC, 0, 0, 0, 0, 0, 0, 0, 0, 0xFF] := by decide

/-- V41, V42. -/
theorem test_stageRdSp :
    stageRdSp params (withFrame []) = (withFrame []).afterRefusal ∧
    (stageRdSp { params with rdSpRest := some ⟨[], by decide⟩ } State.reset).txBuf = [0xAA] := by decide

/-- V43, and a SEND that keeps its frame (V44). -/
theorem test_exec_send :
    nextIs (exec .send State.reset) State.reset.afterRefusal = true ∧
    nextIs (exec .send (withFrame [.ok])) { withFrame [] with
      hostOut := [.ok .unit], history := [.w [0x33, 0, 0, 0, 0, 0, 0, 0, 0, 0xFF] .ok] } = true := by
  decide +kernel

/-! ### Decoding responses (vectors of section 2.5) -/

/-- V50, V51, and P6's second line. -/
theorem test_decPage_valid :
    Machine.decPage false [] (inc 0 ++ [0x95, 0x3C]) = some (inc 0) ∧
    Machine.decPage true [0x69, 0x00, 0x02] (inc 0 ++ [0xE9, 0xF3]) = some (inc 0) ∧
    Machine.decPage false [0x69, 0x00, 0x02] (inc 0x20 ++ [0xE5, 0xCD]) = some (inc 0x20) := by decide +kernel

/-- V71, V72, V73, V75. -/
theorem test_decPage_rejected :
    Machine.decPage false [] (inc 0 ++ [0x6A, 0xC3]) = none ∧
    Machine.decPage false [] (inc 0 ++ [0x3C, 0x95]) = none ∧
    Machine.decPage true [0x69, 0x00, 0x02] (inc 0 ++ [0x95, 0x3C]) = none ∧
    Machine.decPage false [] (List.replicate 34 0) = none := by decide +kernel

/-- V74: the computed checksum stays in CRC after the fault. -/
theorem test_exec_decPage_fault :
    nextIs (exec (.decPage false [0x69, 0x00, 0x02] (inc 0 ++ [0xE9, 0xF3])) State.reset)
      { State.reset with
        crc := 0xC36A
        status := { err := 2, rstErr := false, errPage := 0 }
        hostOut := [.err { kind := .checksumFault, page := some 0, resetFailed := none }] } = true := by
  decide +kernel

theorem test_exec_recvsp :
    nextIs (exec .recvsp (withChannel [] ((inc 0 ++ [0x20, 0x21, 0x22, 0x23]).map .byte)))
      { State.reset with
        rxBuf := inc 0 ++ [0x20, 0x21, 0x22]
        rdIn := [.byte 0x23]
        hostOut := [.ok (.bytes (inc 0 ++ [0x20, 0x21, 0x22]))]
        history := [.r 35 (.ok (inc 0 ++ [0x20, 0x21, 0x22]))] } = true := by decide +kernel

/-! ### The read transaction (programs P2 to P4, vectors V91, V92) -/

/-- P2: three good pages. -/
theorem test_readMem_P2 :
    let t := readMem params 0x0200 3 (withChannel [.ok, .ok]
      ((inc 0 ++ [0xE9, 0xF3] ++ inc 0x20 ++ [0xE5, 0xCD] ++ inc 0x40 ++ [0x76, 0x9E]).map .byte))
    t.hostOut = [.ok (.bytes (inc 0 ++ inc 0x20 ++ inc 0x40))] ∧ t.crc = 0x6189 ∧ t.k = 3 ∧ t.n = 3 ∧
    t.first = false ∧ t.pfx = [0x69, 0x00, 0x02] ∧ t.phase = .idle ∧ t.status = ⟨0, false, 0⟩ ∧
    t.history.length = 5 := by decide +kernel

/-- P3: the second page is corrupted, the third is not read. -/
theorem test_readMem_P3 :
    let t := readMem params 0x1000 3 (withChannel [.ok, .ok]
      ((List.replicate 32 0xA5 ++ [0x8A, 0x7B] ++ List.replicate 32 0x5A ++ [0xEE, 0x16] ++ inc 0).map .byte))
    t.hostOut = [.err ⟨.checksumFault, some 1, some false⟩] ∧ t.crc = 0xE910 ∧ t.k = 1 ∧ t.first = false ∧
    t.status = ⟨2, false, 1⟩ ∧ t.phase = .idle ∧ t.rdIn = (inc 0).map .byte ∧
    t.history.getLast? = some (.w [] .ok) := by decide +kernel

/-- After a first page that validates, whatever comes then. -/
theorem readMem_after_page {f : Bytes} (n : Nat) (rr : WriteAnswer) (rs : List RxItem) (hl : f.length = 34)
    (hc : checkPasses (frameRx f) (frameChecksum true [0x69, 0x00, 0x02] f) = true) :
    readMem params 0x0200 (n + 1) (withChannel [.ok, rr] (f.map .byte ++ rs)) =
      readPages n { State.reset with
        pfx := [0x69, 0x00, 0x02], first := false, k := 1, n := n + 1, phase := .page, wrIn := [rr], rdIn := rs
        rxBuf := f, blk := frameData f, crc := frameChecksum true [0x69, 0x00, 0x02] f
        history := [.w (encRdMem params 0x0200) .ok, .r 34 (.ok f)] } := by
  let s := latchRead params 0x0200 (n + 1) (withChannel [.ok, rr] (f.map .byte ++ rs))
  let s' := (s.wrote (readFrame params s) .ok [rr]).setPhase .page
  unfold readMem
  rw [if_pos (by simp [pagesAllowed, params])]
  show readPages (n + 1) s' = _
  rw [readPages_good (s := s') (chRead_bytes hl rfl) hc]
  have hx : f ++ s'.rxBuf.drop f.length = f := by simp [s', s, withChannel, State.reset]
  simp only [acceptPage, loadPage, State.setRxBuf, State.setCrc, State.read, hx]
  rfl

theorem page_passes : checkPasses (frameRx (inc 0 ++ [0xE9, 0xF3]))
    (frameChecksum true [0x69, 0x00, 0x02] (inc 0 ++ [0xE9, 0xF3])) = true := by decide +kernel

/-- P4: the read of page 1 fails with `e1`, and the reset write with `e2`; the result carries `e1`. -/
theorem test_readMem_P4 (e1 e2 : IOError) :
    let t := readMem params 0x0200 2 (withChannel [.ok, .err e2]
      ((inc 0 ++ [0xE9, 0xF3]).map .byte ++ [.fail e1]))
    t.hostOut = [.err ⟨.channelError e1, some 1, some true⟩] ∧ t.k = 1 ∧ t.status = ⟨1, true, 1⟩ ∧
    t.blk = [] := by
  rw [readMem_after_page 1 _ _ rfl page_passes]
  exact ⟨rfl, rfl, rfl, rfl⟩

/-- V91, V92. -/
theorem test_readMem_V91_V92 (e : IOError) :
    (readMem params 0x0200 1 (withChannel [.err e, .ok] [])).hostOut =
      [.err ⟨.channelError e, some 0, some false⟩] ∧
    (readMem params 0x0200 1 (withChannel [.ok, .err e] ((inc 0 ++ [0xE9, 0xF3]).map .byte ++ []))).hostOut =
      [.err ⟨.channelError e, none, some true⟩] := by
  rw [readMem_after_page 0 _ _ rfl page_passes]
  exact ⟨rfl, rfl⟩

/-- V90, V93. -/
theorem test_exec_refusal_and_busreset :
    nextIs (exec (.readmem 0x0200 0) State.reset) State.reset.afterRefusal = true ∧
    nextIs (exec .busreset (withChannel [.ok] []))
      { State.reset with hostOut := [.ok .unit], history := [.w [] .ok] } = true := by decide +kernel

/-- R39. -/
theorem test_pseudo_operations :
    rdStatus = [.readmem 0x0200 3] ∧ rdLog 7 = [.readmem 0x1000 7] ∧
    checksumStreamed [0x31] = [.crcClr, .crcUpd 0x31, .crcRd] := by decide

/-! ### Witnesses: states and operands that meet the hypotheses of the statements -/

theorem witness_DecodeOfEncode :
    (Instr.readmem 0xFFFF 65535).encodable = true ∧ (Instr.readmem 0 0).encodable = true ∧
    (Instr.checksum []).encodable = true ∧ (Instr.encWrsp 0xFFFF (inc 0)).encodable = true ∧
    (Instr.decPage true [1, 2, 3] (inc 0 ++ [1, 2])).encodable = true ∧
    (Instr.decSp (inc 0 ++ [1, 2, 3])).encodable = true := by decide

theorem witness_EncodeOfDecode : decode [0x30, 0xFF, 0xFF, 0xFF, 0xFF] = .ok (.readmem 0xFFFF 65535) := by decide

theorem witness_IllFormedCommandsRejected :
    (0x05 : Byte) ∉ ([0x01, 0x02, 0x03, 0x04, 0x10, 0x11, 0x12, 0x13, 0x14, 0x15, 0x16, 0x20, 0x21, 0x30, 0x31,
      0x32, 0x33] : List Byte) ∧ decode [0x01] = .ok .crcClr ∧
    (List.replicate 37 (0 : Byte)).length = 37 ∧ 1 < (0x02 : Byte).toNat := by decide

theorem witness_ChecksumIsLinear : ([0x01, 0x02] : Bytes).length = ([0xFF, 0x00] : Bytes).length := by decide

theorem witness_SendWritesStagedFrame :
    State.reset.txBuf = [] ∧
    ((withFrame [.ok]).txBuf ≠ [] ∧ (withFrame [.ok]).wrIn = [.ok]) ∧
    ((withFrame [.err anError]).txBuf ≠ [] ∧ (withFrame [.err anError]).wrIn = [.err anError]) := by decide

theorem witness_DecPageValidatesFrame :
    (([0x69, 0x00, 0x02] : Bytes).length = 3 ∧ (inc 0).length = 32) ∧
    ((([] : Bytes).length ≠ 3) ∧ (List.replicate 33 (0 : Byte)).length ≠ 34) := by decide

/-- Of ExactlyOneCheckPair and ValidityTestForms. -/
theorem witness_data_of_one_page : (inc 0).length = 32 := by decide

/-- One prefix on each side of the equivalence. -/
theorem witness_PageContextsDiffer :
    ((inc 0 ++ [0x95, 0x3C]).length = 34 ∧
      Machine.decPage true [0, 0, 0] (inc 0 ++ [0x95, 0x3C]) = some (frameData (inc 0 ++ [0x95, 0x3C]))) ∧
    ((inc 0 ++ [0xE9, 0xF3]).length = 34 ∧
      Machine.decPage true [0x69, 0, 2] (inc 0 ++ [0xE9, 0xF3]) = some (frameData (inc 0 ++ [0xE9, 0xF3]))) := by
  decide +kernel

theorem witness_RecvspReadsScratchpad :
    ((inc 0 ++ [1, 2, 3]).length = 35 ∧
      (withChannel [] ((inc 0 ++ [1, 2, 3]).map .byte)).rdIn = (inc 0 ++ [1, 2, 3]).map .byte ++ []) ∧
    ((inc 0 ++ [1, 2]).length < 35 ∧
      (withChannel [] ((inc 0 ++ [1, 2]).map .byte ++ [.fail anError])).rdIn =
        (inc 0 ++ [1, 2]).map .byte ++ .fail anError :: []) := by decide

theorem witness_BusresetIsZeroLengthWrite :
    (withChannel [.ok] []).wrIn = .ok :: [] ∧ (withChannel [.err anError] []).wrIn = .err anError :: [] := by decide

/-- Reset, with the channel's answers to a one-page read at 0x0200 that validates. -/
def onePage (rr : WriteAnswer) : State :=
  withChannel [.ok, rr] (streamOf (goodFrames true (readPfx 0x0200) [inc 0]))

theorem witness_ReadmemReturnsAllPages :
    (∀ d ∈ [inc 0], d.length = 32) ∧ pagesAllowed Config.params [inc 0].length = true ∧
    (onePage .ok).wrIn = .ok :: .ok :: [] ∧
    (onePage .ok).rdIn = streamOf (goodFrames true (readPfx 0x0200) [inc 0]) ++ [] :=
  ⟨by decide, pagesAllowed_one _, rfl, by simp [onePage, withChannel]⟩

theorem witness_ReadmemCommandWriteFails :
    pagesAllowed Config.params 1 = true ∧ (withChannel [.err anError, .ok] []).wrIn = .err anError :: .ok :: [] :=
  ⟨pagesAllowed_one _, rfl⟩

/-- The failure comes after 33 bytes of the first page. -/
theorem witness_ReadmemPageReadFails :
    let s := withChannel [.ok, .ok] ((inc 0 ++ [1]).map .byte ++ .fail anError :: [])
    pagesAllowed Config.params 1 = true ∧ (∀ d ∈ ([] : List Bytes), d.length = 32) ∧
    ([] : List Bytes).length < 1 ∧ (inc 0 ++ [1]).length < 34 ∧ s.wrIn = .ok :: .ok :: [] ∧
    s.rdIn = streamOf (goodFrames true (readPfx 0x0200) []) ++ ((inc 0 ++ [1]).map .byte ++ .fail anError :: []) :=
  ⟨pagesAllowed_one _, by decide, by decide, by decide, rfl, rfl⟩

/-- The frame that carries its checksum uninverted, as V71 does. -/
def uninverted : Bytes :=
  inc 0 ++ [lo (checksum (readPfx 0x0200 ++ inc 0)), hi (checksum (readPfx 0x0200 ++ inc 0))]

theorem uninverted_fails : Machine.decPage true (readPfx 0x0200) uninverted = none := by
  have hd : frameData uninverted = inc 0 := rfl
  have hr : frameRx uninverted = checksum (readPfx 0x0200 ++ inc 0) :=
    le16_lo_hi (checksum (readPfx 0x0200 ++ inc 0))
  have hn : ∀ c : Word, ~~~c ≠ c := fun c h => by
    have := congrArg (·.getLsbD 0) h
    simp at this
  simp [Machine.decPage, checkPasses, frameChecksum, context, hd, hr, hn]

theorem witness_ReadmemPageDoesNotValidate :
    let s := withChannel [.ok, .ok] (uninverted.map .byte)
    pagesAllowed Config.params 1 = true ∧ (∀ d ∈ ([] : List Bytes), d.length = 32) ∧
    ([] : List Bytes).length < 1 ∧ uninverted.length = 34 ∧
    Machine.decPage (decide (([] : List Bytes).length = 0)) (readPfx 0x0200) uninverted = none ∧
    s.wrIn = .ok :: .ok :: [] ∧
    s.rdIn = streamOf (goodFrames true (readPfx 0x0200) []) ++ (uninverted.map .byte ++ []) :=
  ⟨pagesAllowed_one _, by decide, by decide, rfl, uninverted_fails, rfl, by
    simp [withChannel, streamOf, goodFrames]⟩

theorem witness_ReadmemResetWriteFails :
    (∀ d ∈ [inc 0], d.length = 32) ∧ pagesAllowed Config.params [inc 0].length = true ∧
    (onePage (.err anError)).wrIn = .ok :: .err anError :: [] ∧
    (onePage (.err anError)).rdIn = streamOf (goodFrames true (readPfx 0x0200) [inc 0]) ++ [] :=
  ⟨by decide, pagesAllowed_one _, rfl, by simp [onePage, withChannel]⟩

theorem witness_ReturnedBlockIsValidated :
    ∃ t, exec (.readmem 0x0200 1) (onePage .ok) = .next t ∧
      t.hostOut = (onePage .ok).hostOut ++ [.ok (.bytes (inc 0))] := by
  refine ⟨_, rfl, ?_⟩
  show (readMem Config.params 0x0200 1 (onePage .ok)).hostOut = _
  unfold readMem
  rw [if_pos (pagesAllowed_one _)]
  obtain ⟨h, _⟩ | ⟨rest, h, e⟩ | ⟨er, rest, h, _⟩ :=
    cmdPhase_cases Config.params (latchRead Config.params 0x0200 1 (onePage .ok))
  · simp [onePage, withChannel] at h
  · obtain rfl : [.ok] = rest := by simpa [onePage, withChannel] using h
    have hr := chRead_bytes (n := 34)
      (s := ((latchRead Config.params 0x0200 1 (onePage .ok)).wrote
        (readFrame Config.params (latchRead Config.params 0x0200 1 (onePage .ok))) .ok [.ok]).setPhase .page)
      (bs := makePage true (readPfx 0x0200) (inc 0)) (rest := []) rfl
      (by simp [onePage, withChannel, streamOf, goodFrames])
    rw [e]
    show (readPages 1 _).hostOut = _
    rw [readPages_good hr (makePage_passes (by decide))]
    rfl
  · simp [onePage, withChannel] at h

theorem witness_BusResetOnEveryExitPath :
    pagesAllowed Config.params 1 = true ∧
    ∃ t, exec (.readmem 0x0200 1) (withChannel [.err anError, .ok] []) = .next t ∧ t.phase = .idle := by
  refine ⟨pagesAllowed_one _, _, rfl, ?_⟩
  show (readMem Config.params 0x0200 1 _).phase = _
  unfold readMem
  rw [if_pos (pagesAllowed_one _)]
  rfl

theorem witness_RefusalChangesOnlyStatus :
    ((withHost [.command [0x05]]).ready ∧ (withHost [.command [0x05]]).hostIn = .command [0x05] :: [] ∧
      decode [0x05] = .error (.reservedSelector 0x05)) ∧
    (inc 0 ++ [0]).length ≠ 32 ∧ ¬(([1, 2] : Bytes).length = 3 ∧ (inc 0 ++ [1, 2]).length = 34) ∧
    (inc 0 ++ [1, 2]).length ≠ 35 ∧ State.reset.txLen = 0 ∧
    (∃ m, ({ params with maxPages := some ⟨1, by decide⟩ } : Params).maxPages = some m ∧ m.val < 2) ∧
    params.rdSpRest = none :=
  ⟨⟨⟨rfl, rfl⟩, rfl, rfl⟩, by decide, by decide, by decide, rfl, ⟨_, rfl, by decide⟩, rfl⟩

/-- R80 at its bounds: the last count below a finite bound, the bound, one more; none; no bound. -/
theorem test_pagesAllowed_bounds :
    let p : Params := { params with maxPages := some ⟨3, by decide⟩ }
    pagesAllowed p 2 = true ∧ pagesAllowed p 3 = true ∧ pagesAllowed p 4 = false ∧ pagesAllowed p 0 = false ∧
    pagesAllowed params 0 = false ∧ pagesAllowed params 1048576 = true := by decide

/-- A busy block with the reset input pending: the case StatusMirrorsLastResult must not let change STATUS. -/
theorem witness_busy_with_reset_pending :
    let s : State := { withHost [.reset] with waiting := some .busReset }
    ¬ s.ready ∧ s.hostIn.head? = some .reset ∧ step s = .next s :=
  ⟨(fun h => by cases h.2), rfl, rfl⟩

/-- Of StatusMirrorsLastResult and ChannelIsConsumedInOrder: a step that ends an operation, one that ends
none, and one that takes the reset input. -/
theorem witness_step_answers_next :
    (∃ t, step (withHost [.command [0x03]]) = .next t) ∧ (∃ t, step (withHost [.command [0x32]]) = .next t) ∧
    (∃ t, step (withHost [.reset]) = .next t) := ⟨⟨_, rfl⟩, ⟨_, rfl⟩, ⟨_, rfl⟩⟩

theorem withHost_inv (h : List HostInput) : (withHost h).Inv := by
  constructor <;> simp [withHost, State.reset]

theorem witness_ResultLeavesBlockReady :
    (withHost [.command [0x03]]).Inv ∧
    ∃ t, step (withHost [.command [0x03]]) = .next t ∧ t.hostOut ≠ (withHost [.command [0x03]]).hostOut :=
  ⟨withHost_inv _, _, rfl, by decide⟩

theorem witness_UnansweredCallBlocksOperation :
    ((withFrame []).txBuf ≠ [] ∧ (withFrame []).wrIn = []) ∧
    ((inc 0 ++ [1, 2]).length < 35 ∧
      (withChannel [] ((inc 0 ++ [1, 2]).map .byte)).rdIn = (inc 0 ++ [1, 2]).map .byte) ∧
    State.reset.wrIn = [] ∧ pagesAllowed Config.params 1 = true :=
  ⟨by decide, by decide, rfl, pagesAllowed_one _⟩

theorem witness_WithheldAnswerIsAWait :
    (∃ s : State, s.phase = .cmd ∧ s.wrIn = []) ∧ (∃ s : State, s.phase = .reset ∧ s.wrIn = []) ∧
    (∃ s : State, s.phase = .page ∧ s.k < s.n ∧ (inc 0 ++ [1]).length < 34 ∧
      s.rdIn = (inc 0 ++ [1]).map .byte) ∧
    (∃ s : State, s.phase = .idle ∧ s.waiting = some .send ∧ s.txBuf ≠ [] ∧ s.wrIn = []) ∧
    (∃ s : State, s.phase = .idle ∧ s.waiting = some .recvSp ∧ (inc 0 ++ [1, 2]).length < 35 ∧
      s.rdIn = (inc 0 ++ [1, 2]).map .byte) ∧
    (∃ s : State, s.phase = .idle ∧ s.waiting = some .busReset ∧ s.wrIn = []) :=
  ⟨⟨{ State.reset with phase := .cmd }, rfl, rfl⟩, ⟨{ State.reset with phase := .reset }, rfl, rfl⟩,
    ⟨{ withChannel [] ((inc 0 ++ [1]).map .byte) with phase := .page, n := 1 }, rfl, by decide, by decide, rfl⟩,
    ⟨(withFrame []).setWaiting (some .send), rfl, rfl, by decide, rfl⟩,
    ⟨(withChannel [] ((inc 0 ++ [1, 2]).map .byte)).setWaiting (some .recvSp), rfl, rfl, by decide, rfl⟩,
    ⟨State.reset.setWaiting (some .busReset), rfl, rfl, rfl⟩⟩

theorem witness_LateAnswersMakeNoDifference :
    State.reset.ready ∧ (∃ t, exec .busreset State.reset = .next t ∧ ¬ t.ready) ∧
    (∃ t, exec .crcClr State.reset = .next t ∧ t.ready) :=
  ⟨⟨rfl, rfl⟩, ⟨_, rfl, fun h => by cases h.2⟩, ⟨_, rfl, rfl, rfl⟩⟩

/-- Of StepRunsDecodedCommand, IdleBlockWaitsForHost and ResetInputClearsBlock, in this order. -/
theorem witness_step_of_ready_block :
    ((withHost [.command [0x02, 0x31]]).ready ∧
      (withHost [.command [0x02, 0x31]]).hostIn = .command [0x02, 0x31] :: [] ∧
      decode [0x02, 0x31] = .ok (.crcUpd 0x31)) ∧
    (State.reset.ready ∧ State.reset.hostIn = []) ∧
    ((withHost [.reset]).ready ∧ (withHost [.reset]).hostIn = .reset :: []) :=
  ⟨⟨⟨rfl, rfl⟩, rfl, rfl⟩, ⟨⟨rfl, rfl⟩, rfl⟩, ⟨⟨rfl, rfl⟩, rfl⟩⟩

theorem witness_BusyBlockTakesNoCommand :
    ¬ (State.reset.setWaiting (some .busReset)).ready ∧
    ∃ t, step (State.reset.setWaiting (some .busReset)) = .next t :=
  ⟨(fun h => by cases h.2), _, rfl⟩

/-- For each clause an operation that changes the element it is about. -/
theorem witness_OnlyListedWritersWrite :
    (∃ t, exec (.crcUpd 0x31) State.reset = .next t ∧ t.crc ≠ State.reset.crc) ∧
    (∃ t, exec .encStop State.reset = .next t ∧ t.txBuf ≠ State.reset.txBuf) ∧
    (∃ t, exec .recvsp (withChannel [] ((inc 0 ++ [1, 2, 3]).map .byte)) = .next t ∧ t.rxBuf ≠ []) ∧
    (∃ t, exec (.readmem 0x0200 1) State.reset = .next t ∧ t.phase ≠ State.reset.phase) ∧
    (∃ t, exec .busreset (withChannel [.ok] []) = .next t ∧ t.history ≠ (withChannel [.ok] []).history) := by
  refine ⟨⟨_, rfl, by decide +kernel⟩, ⟨_, rfl, by simp [State.reset, encStop, encTen]⟩, ⟨_, rfl, by decide +kernel⟩,
    ⟨_, rfl, ?_⟩, ⟨_, rfl, by decide⟩⟩
  show (readMem Config.params 0x0200 1 State.reset).phase ≠ _
  unfold readMem
  rw [if_pos (pagesAllowed_one _)]
  exact fun h => by cases h

theorem witness_ResultsDependOnOperandsOnly :
    let s1 : State := { State.reset with crc := 0xBB3D }
    s1.wrIn = State.reset.wrIn ∧ s1.rdIn = State.reset.rdIn ∧
    ((Instr.encStop = .crcRd ∨ ∃ b, Instr.encStop = .crcUpd b) → s1.crc = State.reset.crc) ∧
    (Instr.encStop = .send → s1.txBuf = State.reset.txBuf) ∧
    (∃ t1, exec .encStop s1 = .next t1) ∧ (∃ t2, exec .encStop State.reset = .next t2) :=
  ⟨rfl, rfl, by simp, by simp, ⟨_, rfl⟩, ⟨_, rfl⟩⟩

theorem witness_PhasesOnlyMoveForward :
    (∃ t, step { State.reset with phase := .page, n := 1 } = .next t) ∧
    (∃ t, step { State.reset with phase := .reset, n := 1, k := 1 } = .next t) := ⟨⟨_, rfl⟩, ⟨_, rfl⟩⟩

theorem witness_StepKeepsInvariant :
    (withHost [.command [0x15], .command [0x31]]).Inv ∧
    ∃ t, step (withHost [.command [0x15], .command [0x31]]) = .next t := ⟨withHost_inv _, _, rfl⟩

end Sys2Proof.Tests
end

section
/-! PROOFS. The bit step and the three register operations of the checksum family (40_crc.md R40, R43 to R45). -/

namespace Sys2Proof.Machine

/-! The bit operators of `crcBit`, in arithmetic. -/

theorem word_and_one_eq_one_iff (c : Word) : c &&& 1 = 1 ↔ c.toNat % 2 = 1 := by
  rw [← BitVec.toNat_inj, BitVec.toNat_and, show (1 : Word).toNat = 1 from rfl, Nat.and_one_is_mod]

theorem word_shiftRight_one (c : Word) : c >>> 1 = BitVec.ofNat 16 (c.toNat / 2) := by
  have hlt : c.toNat / 2 < 2 ^ 16 := (Nat.div_le_self _ _).trans_lt c.isLt
  rw [← BitVec.toNat_inj, BitVec.toNat_ushiftRight, Nat.shiftRight_one, BitVec.toNat_ofNat, Nat.mod_eq_of_lt hlt]

theorem crcBit_of_odd {c : Word} (h : c.toNat % 2 = 1) :
    crcBit c = BitVec.ofNat 16 (c.toNat / 2) ^^^ 0xA001#16 := by
  rw [crcBit, if_pos ((word_and_one_eq_one_iff c).mpr h), word_shiftRight_one]
  rfl

theorem crcBit_of_not_odd {c : Word} (h : ¬ c.toNat % 2 = 1) :
    crcBit c = BitVec.ofNat 16 (c.toNat / 2) := by
  rw [crcBit, if_neg (mt (word_and_one_eq_one_iff c).mp h), word_shiftRight_one]

/-- Settles O6, by the parity of the register: the masked bit is the remainder modulo 2. -/
theorem crcBitShiftsAndXors : Obligations.CrcBitShiftsAndXors := by
  intro c
  split
  case isTrue h => exact crcBit_of_odd h
  case isFalse h => exact crcBit_of_not_odd h

/-! What the three register operations answer. -/

/-- Answering `Ok(v)` clears `STATUS` and hands the result to the host, and does no more (R16). -/
theorem deliver_ok (v : Value) (s : State) : deliver (.ok v) s = s.afterOk v := rfl

@[simp] theorem exec_crcClr (s : State) :
    exec .crcClr s = .next (deliver (.ok .unit) (s.setCrc crcInit)) := rfl

@[simp] theorem exec_crcUpd (b : Byte) (s : State) :
    exec (.crcUpd b) s = .next (deliver (.ok .unit) (s.setCrc (crcByte s.crc b))) := rfl

@[simp] theorem exec_crcRd (s : State) :
    exec .crcRd s = .next (deliver (.ok (.word s.crc)) s) := rfl

/-- Settles O11: the one update before the answer writes `CRC_INIT`, which is 0. -/
theorem crcClrClearsRegister : Obligations.CrcClrClearsRegister := by
  intro s
  rw [exec_crcClr, deliver_ok, State.setCrc, crcInit]

/-- Settles O12: the one update before the answer writes the byte step of the old register. -/
theorem crcUpdFoldsOneByte : Obligations.CrcUpdFoldsOneByte := by
  intro b s
  rw [exec_crcUpd, deliver_ok, State.setCrc]

/-- Settles O13: the answer carries the register, and no update comes before it. -/
theorem crcRdReturnsRegister : Obligations.CrcRdReturnsRegister := by
  intro s
  rw [exec_crcRd, deliver_ok]

end Sys2Proof.Machine
end

section
/-! PROOFS. The frame encoder family: the seven staged frames and SEND (41_frame_encode.md R50 to R58). -/

namespace Sys2Proof.Machine

/-! How an operation of the family ends. -/

/-- Staging a frame writes `TXBUF` and answers the frame, and does no more (R50). -/
theorem stage_eq_afterOk (frame : Bytes) (s : State) :
    stage frame s = State.afterOk (.bytes frame) { s with txBuf := frame } := by
  rw [stage_eq, deliver_ok, State.setTxBuf]

/-- A refusal writes `STATUS` and answers IllegalOperation, and does no more (R103). -/
theorem refuse_eq_afterRefusal (s : State) : refuse s = s.afterRefusal := rfl

/-- An accepted write is the whole of a `writeAndReport`: one event, and `Ok`. -/
theorem writeAndReport_of_ok {w : Waiting} {bs : Bytes} {s : State} {ws : List WriteAnswer}
    (h : s.wrIn = .ok :: ws) : writeAndReport w bs s = State.afterOk .unit (s.wrote bs .ok ws) := by
  have hw : chWrite bs s = some (.ok, s.wrote bs .ok ws) := chWrite_eq_some.mpr ⟨ws, h, rfl⟩
  simp only [writeAndReport, hw, succeed_eq, deliver_ok]

/-- A failed write is one event, and its error is handed on. -/
theorem writeAndReport_of_err {w : Waiting} {bs : Bytes} {s : State} {e : IOError} {ws : List WriteAnswer}
    (h : s.wrIn = .err e :: ws) :
    writeAndReport w bs s = deliver (.err ⟨.channelError e, none, none⟩) (s.wrote bs (.err e) ws) := by
  have hw : chWrite bs s = some (.err e, s.wrote bs (.err e) ws) := chWrite_eq_some.mpr ⟨ws, h, rfl⟩
  simp only [writeAndReport, hw, raise_eq]

/-! The frames, byte by byte. -/

theorem encTen_eq (op : Byte) : encTen op = [op, 0, 0, 0, 0, 0, 0, 0, 0, 0xFF] := rfl

theorem lo_eq_ofNat (a : Word) : lo a = BitVec.ofNat 8 a.toNat := rfl

theorem hi_eq_ofNat_div (a : Word) : hi a = BitVec.ofNat 8 (a.toNat / 256) := by
  rw [← BitVec.toNat_inj, hi, BitVec.toNat_setWidth, BitVec.toNat_ushiftRight, Nat.shiftRight_eq_div_pow,
    BitVec.toNat_ofNat]

/-! What each operation of the family does with its frame. -/

@[simp] theorem exec_encClrmem (s : State) :
    exec .encClrmem s = .next (stage (encTen Config.params.opClrMem) s) := rfl

@[simp] theorem exec_encStop (s : State) : exec .encStop s = .next (stage (encTen Config.params.opStop) s) := rfl

@[simp] theorem exec_encStart (s : State) : exec .encStart s = .next (stage (encTen Config.params.opStart) s) := rfl

@[simp] theorem exec_encCpysp (addr : Word) (s : State) :
    exec (.encCpysp addr) s = .next (stage (encCpySp Config.params addr) s) := rfl

@[simp] theorem exec_encRdmem (addr : Word) (s : State) :
    exec (.encRdmem addr) s = .next (stage (encRdMem Config.params addr) s) := rfl

@[simp] theorem exec_encRdsp (s : State) : exec .encRdsp s = .next (stageRdSp Config.params s) := rfl

theorem exec_encWrsp_of_length {data : Bytes} (h : data.length = 32) (addr : Word) (s : State) :
    exec (.encWrsp addr data) s = .next (stage (encWrSp Config.params addr data) s) :=
  congrArg _ (if_pos h)

theorem exec_encWrsp_of_length_ne {data : Bytes} (h : data.length ≠ 32) (addr : Word) (s : State) :
    exec (.encWrsp addr data) s = .next (refuse s) :=
  congrArg _ (if_neg h)

theorem stageRdSp_of_none {p : Params} (h : encRdSp p = none) (s : State) : stageRdSp p s = refuse s := by
  rw [stageRdSp, h]

theorem stageRdSp_of_some {p : Params} {frame : Bytes} (h : encRdSp p = some frame) (s : State) :
    stageRdSp p s = stage frame s := by
  rw [stageRdSp, h]

theorem exec_send_of_nil {s : State} (h : s.txBuf = []) : exec .send s = .next (refuse s) :=
  congrArg _ (if_pos (List.length_eq_zero_iff.mpr h))

theorem exec_send_of_ne_nil {s : State} (h : s.txBuf ≠ []) :
    exec .send s = .next (writeAndReport .send s.txBuf s) :=
  congrArg _ (if_neg (mt List.length_eq_zero_iff.mp h))

/-! The statements of the family. -/

/-- Settles O15: the three operations stage the one ten-byte layout, each behind its own opcode. -/
theorem tenByteCommandFrames : Obligations.TenByteCommandFrames := by
  intro s
  refine ⟨?clrmem, ?stop, ?start⟩
  case clrmem => rw [exec_encClrmem, stage_eq_afterOk, encTen_eq]
  case stop => rw [exec_encStop, stage_eq_afterOk, encTen_eq]
  case start => rw [exec_encStart, stage_eq_afterOk, encTen_eq]

/-- Settles O16: both frames are the model's, whose address bytes are the remainder and the quotient of the
address by 256. -/
theorem addressedCommandFrames : Obligations.AddressedCommandFrames := by
  intro addr s
  refine ⟨encCpySp Config.params addr, encRdMem Config.params addr, ?copy, encCpySp_length _ _, ?read,
    encRdMem_length _ _, ?execCopy, ?execRead⟩
  case copy => rw [encCpySp, lo_eq_ofNat, hi_eq_ofNat_div, cpySpByte3]
  case read => rw [encRdMem, lo_eq_ofNat, hi_eq_ofNat_div]
  case execCopy => rw [exec_encCpysp, stage_eq_afterOk]
  case execRead => rw [exec_encRdmem, stage_eq_afterOk]

/-- Settles O17, by the length of the payload. -/
theorem writeScratchpadFrame : Obligations.WriteScratchpadFrame := by
  intro addr data s
  split
  case isTrue h =>
    rw [exec_encWrsp_of_length h, stage_eq_afterOk]
    rfl
  case isFalse h => rw [exec_encWrsp_of_length_ne h, refuse_eq_afterRefusal]

/-- Settles O18, by the presence of the parameter: at the machine's parameters, and at any, whose type bounds
the bytes behind the opcode. -/
theorem readScratchpadFrame : Obligations.ReadScratchpadFrame := by
  constructor
  · intro s
    rw [exec_encRdsp]
    cases h : encRdSp Config.params with
    | none => rw [stageRdSp_of_none h, refuse_eq_afterRefusal]
    | some frame => rw [stageRdSp_of_some h, stage_eq_afterOk]
  · intro p s
    cases h : p.rdSpRest with
    | none =>
      have hf : encRdSp p = none := by rw [encRdSp, h, Option.map_none]
      exact .inl ⟨rfl, by rw [stageRdSp_of_none hf, refuse_eq_afterRefusal]⟩
    | some rest =>
      have hf : encRdSp p = some (p.opRdSp :: rest.val) := by rw [encRdSp, h, Option.map_some]
      exact .inr ⟨rest.val, rest.property, rfl, by rw [stageRdSp_of_some hf, stage_eq_afterOk]⟩

/-- Settles O19: with a frame staged, SEND is one channel write whose answer is its result; no update but the
event and the result is made, so the frame stays staged. -/
theorem sendWritesStagedFrame : Obligations.SendWritesStagedFrame := by
  intro s
  refine ⟨fun h => ?empty, fun ws h hw => ?accepted, fun e ws h hw => ?failed⟩
  case empty => rw [exec_send_of_nil h, refuse_eq_afterRefusal]
  case accepted => rw [exec_send_of_ne_nil h, writeAndReport_of_ok hw, State.wrote]
  case failed =>
    rw [exec_send_of_ne_nil h, writeAndReport_of_err hw]
    rfl

end Sys2Proof.Machine
end

section
/-! PROOFS. The frame decoder family: DEC.PAGE, DEC.SP and RECVSP (42_frame_decode.md R77 to R79). -/

namespace Sys2Proof.Machine

/-! The parts of a response frame given as its data and its two check bytes. -/

section Frame

variable {d : Bytes} (hd : d.length = 32) (l h : Byte)
include hd

theorem frameData_append : frameData (d ++ [l, h]) = d := List.take_left' hd

theorem frameRx_append : frameRx (d ++ [l, h]) = le16 l h := by
  simp [frameRx, hd]

theorem frameChecksum_append (first : Bool) (pfx : Bytes) :
    frameChecksum first pfx (d ++ [l, h]) = checksum (context first pfx d) := by
  rw [frameChecksum, frameData_append hd]

end Frame

/-- The test of R76 as an equation of 16-bit values. -/
theorem checkPasses_eq_true_iff {rx c : Word} : checkPasses rx c = true ↔ ~~~rx = c := decide_eq_true_iff

/-- A validated frame: its checksum goes to `CRC` and its data to the host (R77). -/
theorem checkPage_of_valid {first : Bool} {pfx f : Bytes} (hv : ~~~(frameRx f) = frameChecksum first pfx f)
    (s : State) :
    checkPage first pfx f s =
      State.afterOk (.bytes (frameData f)) (s.setCrc (frameChecksum first pfx f)) := by
  rw [checkPage, if_pos (checkPasses_eq_true_iff.mpr hv), succeed_eq, deliver_ok]

/-- A frame that does not validate: `CRC` holds the computed checksum all the same (R77). -/
theorem checkPage_of_invalid {first : Bool} {pfx f : Bytes}
    (hv : ¬ ~~~(frameRx f) = frameChecksum first pfx f) (s : State) :
    checkPage first pfx f s =
      deliver (.err ⟨.checksumFault, some 0, none⟩) (s.setCrc (frameChecksum first pfx f)) := by
  rw [checkPage, if_neg (mt checkPasses_eq_true_iff.mp hv), raise_eq]

/-! What each operation of the family does with its operands. -/

theorem exec_decPage_of_length {pfx f : Bytes} (hp : pfx.length = 3) (hf : f.length = 34) (first : Bool)
    (s : State) : exec (.decPage first pfx f) s = .next (checkPage first pfx f s) :=
  congrArg _ (if_pos ⟨hp, hf⟩)

theorem exec_decPage_of_length_ne {pfx f : Bytes} (hne : pfx.length ≠ 3 ∨ f.length ≠ 34) (first : Bool)
    (s : State) : exec (.decPage first pfx f) s = .next (refuse s) :=
  congrArg _ (if_neg (not_and_or.mpr hne))

theorem exec_decSp_of_length {f : Bytes} (hf : f.length = 35) (s : State) :
    exec (.decSp f) s = .next (deliver (.ok (.bytes f)) s) :=
  congrArg _ (if_pos hf)

theorem exec_decSp_of_length_ne {f : Bytes} (hf : f.length ≠ 35) (s : State) :
    exec (.decSp f) s = .next (refuse s) :=
  congrArg _ (if_neg hf)

@[simp] theorem exec_recvsp (s : State) : exec .recvsp s = execRecvsp s := rfl

/-- A successful read is the whole of RECVSP but for `RXBUF`: one event, and its bytes returned (R79). -/
theorem execRecvsp_of_ok {s t : State} {bs : Bytes} (hr : chRead 35 s = some (.ok bs, t)) :
    execRecvsp s = .next (State.afterOk (.bytes bs) (t.setRxBuf bs)) := by
  rw [execRecvsp, spRespBytes_eq, hr]
  rfl

/-- A failed read is one event, and its error is handed on (R79). -/
theorem execRecvsp_of_err {s t : State} {e : IOError} (hr : chRead 35 s = some (.err e, t)) :
    execRecvsp s = .next (deliver (.err ⟨.channelError e, none, none⟩) t) := by
  rw [execRecvsp, spRespBytes_eq, hr]
  rfl

/-! The statements of the family. -/

/-- Settles O20: by the lengths of the operands, and for a frame of the right length by the test of R76, which
is about the frame's own data and check value. -/
theorem decPageValidatesFrame : Obligations.DecPageValidatesFrame := by
  intro first pfx d l h s
  refine ⟨fun hp hd => ?framed, fun f hne => ?refused⟩
  case framed =>
    have hlen : (d ++ [l, h]).length = 34 := by simp [hd]
    have hdata := frameData_append hd l h
    have hrx := frameRx_append hd l h
    have hsum := frameChecksum_append hd l h first pfx
    rw [exec_decPage_of_length hp hlen, ← context]
    split
    case isTrue hv => rw [checkPage_of_valid (by rwa [hrx, hsum]), hdata, hsum, State.setCrc]
    case isFalse hv =>
      rw [checkPage_of_invalid (by rwa [hrx, hsum]), hsum]
      rfl
  case refused => rw [exec_decPage_of_length_ne hne, refuse_eq_afterRefusal]

/-- Settles O24, by the length of the operand. -/
theorem decSpPassesThrough : Obligations.DecSpPassesThrough := by
  intro f s
  split
  case isTrue hf => rw [exec_decSp_of_length hf, deliver_ok]
  case isFalse hf => rw [exec_decSp_of_length_ne hf, refuse_eq_afterRefusal]

/-- Settles O25, by what the one channel read meets first, 35 bytes or a failure. In the model the stream goes
on behind the failure (log 3). -/
theorem recvspReadsScratchpad : Obligations.RecvspReadsScratchpad := by
  intro s bs rs
  refine ⟨fun hl hs => ?received, fun e hl hs => ⟨rs, ?failed⟩⟩
  case received => rw [exec_recvsp, execRecvsp_of_ok (chRead_bytes hl hs), State.setRxBuf, hl, State.read]
  case failed =>
    rw [exec_recvsp, execRecvsp_of_err (chRead_fail hl hs)]
    rfl

end Sys2Proof.Machine
end

section
/-! PROOFS. The read transaction family: BUSRESET (43_read_transaction.md R86). -/

namespace Sys2Proof.Machine

/-- `BUSRESET` is the zero-length channel write and its answer (R86). -/
@[simp] theorem exec_busreset (s : State) : exec .busreset s = .next (writeAndReport .busReset [] s) := rfl

/-- Settles O26, by the answer the one channel write meets, accepted or failed. -/
theorem busresetIsZeroLengthWrite : Obligations.BusresetIsZeroLengthWrite := by
  intro s
  refine ⟨fun ws hw => ?accepted, fun e ws hw => ?failed⟩
  case accepted => rw [exec_busreset, writeAndReport_of_ok hw, State.wrote]
  case failed =>
    rw [exec_busreset, writeAndReport_of_err hw]
    rfl

end Sys2Proof.Machine
end

section
/-! PROOFS. Splitting and joining 16-bit values, and the host commands (20_memory.md R21, 30_encoding.md R33, R38). -/

namespace Sys2Proof.Machine

/-! The two bytes of a 16-bit value, in arithmetic (R21). -/

theorem lo_toNat (a : Word) : (lo a).toNat = a.toNat % 256 := by
  rw [lo_eq_ofNat, BitVec.toNat_ofNat]

theorem hi_toNat (a : Word) : (hi a).toNat = a.toNat / 256 := by
  have ha := a.isLt
  rw [hi_eq_ofNat_div, BitVec.toNat_ofNat]
  omega

theorem zext16_toNat (b : Byte) : (zext16 b).toNat = b.toNat := by
  have hb := b.isLt
  rw [zext16, BitVec.toNat_setWidth]
  omega

theorem le16_toNat (l h : Byte) : (le16 l h).toNat = l.toNat + 256 * h.toNat := by
  have hl := l.isLt
  have hh := h.isLt
  have hshift : (zext16 h <<< 8).toNat = h.toNat <<< 8 := by
    rw [BitVec.toNat_shiftLeft, zext16_toNat, Nat.mod_eq_of_lt (by rw [Nat.shiftLeft_eq]; omega)]
  rw [le16, BitVec.toNat_or, hshift, zext16_toNat, Nat.or_comm, ← Nat.shiftLeft_add_eq_or_of_lt hl,
    Nat.shiftLeft_eq]
  omega

@[simp] theorem lo_le16 (l h : Byte) : lo (le16 l h) = l := by
  have hl := l.isLt
  rw [← BitVec.toNat_inj, lo_toNat, le16_toNat]
  omega

@[simp] theorem hi_le16 (l h : Byte) : hi (le16 l h) = h := by
  have hl := l.isLt
  rw [← BitVec.toNat_inj, hi_toNat, le16_toNat]
  omega

/-- Settles O1: each part is its arithmetic form. -/
theorem littleEndianSplitJoin : Obligations.LittleEndianSplitJoin :=
  ⟨fun a => ⟨le16_lo_hi a, lo_toNat a, hi_toNat a⟩, le16_toNat⟩

/-- Settles O2: the seven commands are closed terms, which the decoder evaluates. -/
theorem commandsOfTheSpecDecode : Obligations.CommandsOfTheSpecDecode := by
  refine ⟨?_, ?_, ?_, ?_, ?_, ?_, ?_⟩ <;> rfl

end Sys2Proof.Machine

namespace Sys2Proof

open Sys2Proof.Machine (lo hi le16 le16_lo_hi lo_le16 hi_le16)

/-! What each format reads from the operand bytes it is written in (R33). -/

section Formats

variable (sel : Byte)

theorem readHA_encode16 (mk : Word → Instr) (addr : Word) : readHA sel mk (encode16 addr) = .ok (mk addr) := by
  simp [readHA, encode16]

theorem readHAN_encode16 (mk : Word → Nat → Instr) (addr : Word) {n : Nat} (hn : n ≤ 65535) :
    readHAN sel mk (encode16 addr ++ encode16 (BitVec.ofNat 16 n)) = .ok (mk addr n) := by
  have hmod : n % 65536 = n := by omega
  simp [readHAN, encode16, hmod]

theorem readHAD_encode16 (mk : Word → Bytes → Instr) (addr : Word) {data : Bytes} (hd : data.length = 32) :
    readHAD sel mk (encode16 addr ++ data) = .ok (mk addr data) := by
  simp [readHAD, encode16, hd]

theorem readHV_encode16 (mk : Bytes → Instr) {bs : Bytes} (hb : bs.length ≤ 65535) :
    readHV sel mk (encode16 (BitVec.ofNat 16 bs.length) ++ bs) = .ok (mk bs) := by
  have hmod : bs.length = bs.length % 65536 := by omega
  simp [readHV, encode16, ← hmod]

theorem readHP_operands (mk : Bool → Bytes → Bytes → Instr) (first : Bool) {pfx f : Bytes}
    (hp : pfx.length = 3) (hf : f.length = 34) :
    readHP sel mk ((if first then 0x01 else 0x00) :: pfx ++ f) = .ok (mk first pfx f) := by
  obtain ⟨p0, p1, p2, rfl⟩ := List.length_eq_three.mp hp
  cases first <;> simp [readHP, hf]

theorem readHS_of_length (mk : Bytes → Instr) {f : Bytes} (hf : f.length = 35) :
    readHS sel mk f = .ok (mk f) := if_pos hf

end Formats

/-- Settles O3, by the format of each operation: the selector picks the format's reader, which reads the
operand bytes back. -/
theorem decodeOfEncode : Obligations.DecodeOfEncode := by
  intro i hi
  cases i with
  | crcClr | crcUpd | crcRd | encRdsp | encClrmem | encStop | encStart | send | recvsp | busreset => rfl
  | encCpysp addr => exact readHA_encode16 0x11 .encCpysp addr
  | encRdmem addr => exact readHA_encode16 0x13 .encRdmem addr
  | checksum bs => exact readHV_encode16 0x04 .checksum (of_decide_eq_true hi)
  | encWrsp addr data => exact readHAD_encode16 0x10 .encWrsp addr (of_decide_eq_true hi)
  | decPage first pfx f =>
    obtain ⟨hp, hf⟩ : pfx.length = 3 ∧ f.length = 34 := by simpa [Instr.encodable] using hi
    exact readHP_operands 0x20 .decPage first hp hf
  | decSp f => exact readHS_of_length 0x21 .decSp (of_decide_eq_true hi)
  | readmem addr n => exact readHAN_encode16 0x30 .readmem addr (of_decide_eq_true hi)

/-! The converse: operand bytes a format accepts are those it is written in. -/

theorem encode16_le16 (l h : Byte) : encode16 (le16 l h) = [l, h] := by
  simp [encode16]

section Formats

variable {sel : Byte} {ops : Bytes} {i : Instr}

theorem readH0_eq_ok {j : Instr} (h : readH0 sel j ops = .ok i) : i = j ∧ ops = [] := by
  unfold readH0 at h
  split at h
  · cases h
    exact ⟨rfl, rfl⟩
  · cases h

theorem readHB_eq_ok {mk : Byte → Instr} (h : readHB sel mk ops = .ok i) : ∃ b, i = mk b ∧ ops = [b] := by
  unfold readHB at h
  split at h
  · cases h
    exact ⟨_, rfl, rfl⟩
  · cases h

theorem readHA_eq_ok {mk : Word → Instr} (h : readHA sel mk ops = .ok i) :
    ∃ addr, i = mk addr ∧ ops = encode16 addr := by
  unfold readHA at h
  split at h
  · cases h
    exact ⟨_, rfl, (encode16_le16 _ _).symm⟩
  · cases h

theorem readHAN_eq_ok {mk : Word → Nat → Instr} (h : readHAN sel mk ops = .ok i) :
    ∃ addr n, n ≤ 65535 ∧ i = mk addr n ∧ ops = encode16 addr ++ encode16 (BitVec.ofNat 16 n) := by
  unfold readHAN at h
  split at h
  next l h nl nh =>
    cases h
    have hn := (le16 nl nh).isLt
    exact ⟨_, _, by omega, rfl, by simp [encode16_le16]⟩
  next => cases h

theorem readHAD_eq_ok {mk : Word → Bytes → Instr} (h : readHAD sel mk ops = .ok i) :
    ∃ addr data, data.length = 32 ∧ i = mk addr data ∧ ops = encode16 addr ++ data := by
  unfold readHAD at h
  split at h
  next l h data =>
    split at h
    next hd =>
      cases h
      exact ⟨_, data, hd, rfl, by simp [encode16_le16]⟩
    next => cases h
  next => cases h

theorem readHV_eq_ok {mk : Bytes → Instr} (h : readHV sel mk ops = .ok i) :
    ∃ bs : Bytes, bs.length ≤ 65535 ∧ i = mk bs ∧ ops = encode16 (BitVec.ofNat 16 bs.length) ++ bs := by
  unfold readHV at h
  split at h
  next l h bs =>
    split at h
    next hb =>
      cases h
      have hlt := (le16 l h).isLt
      exact ⟨bs, by omega, rfl, by simp [hb, encode16_le16]⟩
    next => cases h
  next => cases h

theorem readHP_eq_ok {mk : Bool → Bytes → Bytes → Instr} (h : readHP sel mk ops = .ok i) :
    ∃ first pfx f, pfx.length = 3 ∧ f.length = 34 ∧ i = mk first pfx f ∧
      ops = (if first then 0x01 else 0x00) :: pfx ++ f := by
  unfold readHP at h
  split at h
  next b p0 p1 p2 f =>
    split at h
    next hf =>
      split at h
      next hb =>
        cases h
        exact ⟨false, [p0, p1, p2], f, rfl, hf, rfl, by simp [BitVec.eq_of_toNat_eq (y := 0x00#8) hb]⟩
      next hb =>
        cases h
        exact ⟨true, [p0, p1, p2], f, rfl, hf, rfl, by simp [BitVec.eq_of_toNat_eq (y := 0x01#8) hb]⟩
      next => cases h
    next => cases h
  next => cases h

theorem readHS_eq_ok {mk : Bytes → Instr} (h : readHS sel mk ops = .ok i) : ops.length = 35 ∧ i = mk ops := by
  unfold readHS at h
  split at h
  next hl =>
    cases h
    exact ⟨hl, rfl⟩
  next => cases h

end Formats

/-- A command is the encoding of what it decodes to, by the selector: its format's reader accepts only the
operand bytes the operation is written in. -/
theorem encode_of_decode {cmd : Bytes} {i : Instr} (h : decode cmd = .ok i) :
    encode i = cmd ∧ i.encodable = true := by
  match cmd with
  | [] => cases h
  | sel :: ops =>
    dsimp only [decode] at h
    split at h
    case h_1 hs | h_3 hs | h_7 hs | h_9 hs | h_10 hs | h_11 hs | h_15 hs | h_16 hs | h_17 hs =>
      obtain ⟨rfl, rfl⟩ := readH0_eq_ok h
      exact ⟨congrArg (· :: []) (BitVec.eq_of_toNat_eq hs.symm), rfl⟩
    case h_2 hs =>
      obtain ⟨b, rfl, rfl⟩ := readHB_eq_ok h
      exact ⟨congrArg (· :: _) (BitVec.eq_of_toNat_eq hs.symm), rfl⟩
    case h_4 hs =>
      obtain ⟨bs, hb, rfl, rfl⟩ := readHV_eq_ok h
      exact ⟨congrArg (· :: _) (BitVec.eq_of_toNat_eq hs.symm), decide_eq_true hb⟩
    case h_5 hs =>
      obtain ⟨addr, data, hd, rfl, rfl⟩ := readHAD_eq_ok h
      exact ⟨congrArg (· :: _) (BitVec.eq_of_toNat_eq hs.symm), decide_eq_true hd⟩
    case h_6 hs | h_8 hs =>
      obtain ⟨addr, rfl, rfl⟩ := readHA_eq_ok h
      exact ⟨congrArg (· :: _) (BitVec.eq_of_toNat_eq hs.symm), rfl⟩
    case h_12 hs =>
      obtain ⟨first, pfx, f, hp, hf, rfl, rfl⟩ := readHP_eq_ok h
      exact ⟨congrArg (· :: _) (BitVec.eq_of_toNat_eq hs.symm), by simp [Instr.encodable, hp, hf]⟩
    case h_13 hs =>
      obtain ⟨hl, rfl⟩ := readHS_eq_ok h
      exact ⟨congrArg (· :: _) (BitVec.eq_of_toNat_eq hs.symm), decide_eq_true hl⟩
    case h_14 hs =>
      obtain ⟨addr, n, hn, rfl, rfl⟩ := readHAN_eq_ok h
      exact ⟨congrArg (· :: _) (BitVec.eq_of_toNat_eq hs.symm), decide_eq_true hn⟩
    case h_18 => cases h

/-- Settles O4. -/
theorem encodeOfDecode : Obligations.EncodeOfDecode := fun _ _ => encode_of_decode

/-! What does not decode (R38). -/

theorem decode_reserved {sel : Byte} (ops : Bytes)
    (h : sel ∉ ([0x01, 0x02, 0x03, 0x04, 0x10, 0x11, 0x12, 0x13, 0x14, 0x15, 0x16, 0x20, 0x21, 0x30, 0x31, 0x32,
      0x33] : List Byte)) : decode (sel :: ops) = .error (.reservedSelector sel) := by
  have hnat : ∀ x : Byte, sel = x ↔ sel.toNat = x.toNat := fun x => BitVec.toNat_inj.symm
  simp only [List.mem_cons, List.not_mem_nil, or_false, not_or, hnat] at h
  dsimp only [decode]
  split <;> simp_all

/-- The selector of an encodable operation's command decides the command's length. -/
theorem commandLength_encode {i : Instr} (h : i.encodable = true) :
    commandLength (encode i) = (encode i).length := by
  open Sys2Proof.Laws in
  cases i with
  | crcClr => exact (CommandShape.crcClr h).2
  | crcUpd b => exact (CommandShape.crcUpd b h).2
  | crcRd => exact (CommandShape.crcRd h).2
  | checksum bs => exact (CommandShape.checksum bs h).2
  | encWrsp addr data => exact (CommandShape.encWrsp addr data h).2
  | encCpysp addr => exact (CommandShape.encCpysp addr h).2
  | encRdsp => exact (CommandShape.encRdsp h).2
  | encRdmem addr => exact (CommandShape.encRdmem addr h).2
  | encClrmem => exact (CommandShape.encClrmem h).2
  | encStop => exact (CommandShape.encStop h).2
  | encStart => exact (CommandShape.encStart h).2
  | send => exact (CommandShape.send h).2
  | decPage first pfx f => exact (CommandShape.decPage first pfx f h).2
  | decSp f => exact (CommandShape.decSp f h).2
  | recvsp => exact (CommandShape.recvsp h).2
  | readmem addr n => exact (CommandShape.readmem addr n h).2
  | busreset => exact (CommandShape.busreset h).2

theorem decode_firstNotBit {b : Byte} {ops : Bytes} (hl : ops.length = 37) (hb : 1 < b.toNat) :
    decode (0x20 :: b :: ops) = .error (.firstNotBit b) := by
  match ops, hl with
  | p0 :: p1 :: p2 :: f, hl =>
    have hf : f.length = 34 := by simpa using hl
    show readHP 0x20 .decPage (b :: p0 :: p1 :: p2 :: f) = _
    simp only [readHP, if_pos hf]
    split
    · omega
    · omega
    · rfl

/-- Settles O5: a command that decodes is an encoding, whose length its selector gives. -/
theorem illFormedCommandsRejected : Obligations.IllFormedCommandsRejected := by
  refine ⟨fun sel ops h => decode_reserved ops h, fun cmd i h => ?length, fun b ops => decode_firstNotBit⟩
  case length =>
    obtain ⟨rfl, henc⟩ := encode_of_decode h
    exact (commandLength_encode henc).symm

end Sys2Proof
end

section
/-! PROOFS. The algebra of the checksum: linearity, shifts, residues, the table, and the streamed form (40_crc.md R41 to R49). -/

namespace Sys2Proof.Machine

/-! The bit step is linear: it shifts, and adds the polynomial when bit 0 is set (R40, R48 law 1). -/

/-- The polynomial, or nothing. -/
def polyIf (b : Bool) : Word := if b then crcPolyRefl else 0#16

theorem polyIf_xor (a b : Bool) : polyIf (a ^^ b) = polyIf a ^^^ polyIf b := by
  cases a <;> cases b <;> rfl

theorem crcBit_eq_polyIf (c : Word) : crcBit c = (c >>> 1) ^^^ polyIf (c.getLsbD 0) := by
  have hbit : c.getLsbD 0 = decide (c.toNat % 2 = 1) := by
    rw [BitVec.getLsbD, Nat.testBit_zero]
  rw [hbit, polyIf, word_shiftRight_one]
  by_cases h : c.toNat % 2 = 1
  · rw [crcBit_of_odd h, if_pos (decide_eq_true h)]
    rfl
  · rw [crcBit_of_not_odd h, if_neg (by simpa using h), BitVec.xor_zero]

theorem crcBit_xor (x y : Word) : crcBit (x ^^^ y) = crcBit x ^^^ crcBit y := by
  simp only [crcBit_eq_polyIf, BitVec.getLsbD_xor, polyIf_xor, BitVec.ushiftRight_xor_distrib]
  ac_rfl

theorem crcBits_xor (n : Nat) (x y : Word) : crcBits n (x ^^^ y) = crcBits n x ^^^ crcBits n y := by
  induction n generalizing x y with
  | zero => rfl
  | succ n ih => rw [crcBits, crcBits, crcBits, crcBit_xor, ih]

theorem crcBits_eq_iterate (n : Nat) (c : Word) : crcBits n c = crcBit^[n] c := by
  induction n generalizing c with
  | zero => rfl
  | succ n ih => rw [crcBits, ih, Function.iterate_succ_apply]

theorem crcBits_add (m n : Nat) (c : Word) : crcBits (m + n) c = crcBits m (crcBits n c) := by
  simp only [crcBits_eq_iterate, Function.iterate_add_apply]

theorem crcBits_zero_word (n : Nat) : crcBits n 0#16 = 0#16 := by
  induction n with
  | zero => rfl
  | succ n ih => exact ih

/-- Bit steps that shift out zeros only are a shift. -/
theorem crcBits_of_low_zero {n : Nat} {c : Word} (h : ∀ i < n, c.getLsbD i = false) : crcBits n c = c >>> n := by
  induction n generalizing c with
  | zero => rw [crcBits, BitVec.ushiftRight_zero]
  | succ n ih =>
    have hstep : crcBit c = c >>> 1 := by
      rw [crcBit_eq_polyIf, h 0 n.succ_pos, polyIf, if_neg Bool.false_ne_true, BitVec.xor_zero]
    rw [crcBits, hstep, ih, ← BitVec.shiftRight_add, Nat.add_comm]
    intro i hi
    rw [BitVec.getLsbD_ushiftRight]
    exact h _ (by omega)

/-! The byte step (R41). -/

theorem zext16_xor (a b : Byte) : zext16 (a ^^^ b) = zext16 a ^^^ zext16 b := BitVec.setWidth_xor

theorem crcByte_xor (c1 c2 : Word) (b1 b2 : Byte) :
    crcByte (c1 ^^^ c2) (b1 ^^^ b2) = crcByte c1 b1 ^^^ crcByte c2 b2 := by
  simp only [crcByte, ← crcBits_xor, zext16_xor]
  congr 1
  ac_rfl

theorem getLsbD_zext16 (b : Byte) (i : Nat) : (zext16 b).getLsbD i = b.getLsbD i := by
  rw [zext16, BitVec.getLsbD_setWidth]
  by_cases hi : i < 16
  · simp [hi]
  · simp [hi, BitVec.getLsbD_of_ge b i (by omega)]

theorem getLsbD_lo {c : Word} {i : Nat} (hi : i < 8) : (lo c).getLsbD i = c.getLsbD i := by
  simp [lo, hi]

theorem zext16_shiftRight_eight (b : Byte) : zext16 b >>> 8 = 0#16 := by
  refine BitVec.eq_of_getLsbD_eq fun i _ => ?_
  rw [BitVec.getLsbD_ushiftRight, getLsbD_zext16, BitVec.getLsbD_of_ge b _ (by omega)]
  simp

theorem xor_zext16_shiftRight_eight (c : Word) (b : Byte) : (c ^^^ zext16 b) >>> 8 = c >>> 8 := by
  rw [BitVec.ushiftRight_xor_distrib, zext16_shiftRight_eight, BitVec.xor_zero]

theorem zext16_hi (c : Word) : zext16 (hi c) = c >>> 8 := by
  rw [← BitVec.toNat_inj, zext16_toNat, hi_toNat, BitVec.toNat_ushiftRight, Nat.shiftRight_eq_div_pow]

/-- Eight bit steps: the low byte becomes its table entry, the high byte is shifted down (R47). -/
theorem crcBits_eight (x : Word) : crcBits 8 x = crcByte 0#16 (lo x) ^^^ (x >>> 8) := by
  have hsplit : x = zext16 (lo x) ^^^ (x ^^^ zext16 (lo x)) := by
    rw [BitVec.xor_comm x, ← BitVec.xor_assoc, BitVec.xor_self, BitVec.zero_xor]
  have hlow : ∀ i < 8, (x ^^^ zext16 (lo x)).getLsbD i = false := by
    intro i hi
    rw [BitVec.getLsbD_xor, getLsbD_zext16, getLsbD_lo hi, Bool.xor_self]
  calc crcBits 8 x
      = crcBits 8 (zext16 (lo x)) ^^^ crcBits 8 (x ^^^ zext16 (lo x)) := by rw [← crcBits_xor, ← hsplit]
    _ = crcByte 0#16 (lo x) ^^^ (x >>> 8) := by
      rw [crcBits_of_low_zero hlow, xor_zext16_shiftRight_eight, crcByte, BitVec.zero_xor]

theorem crcByte_zero_zero : crcByte 0#16 0#8 = 0#16 := crcBits_zero_word 8

theorem crcByte_eq (c : Word) (b : Byte) : crcByte c b = crcByte 0#16 (lo c ^^^ b) ^^^ (c >>> 8) := by
  have hlo : lo (c ^^^ zext16 b) = lo c ^^^ b := by
    rw [lo, BitVec.setWidth_xor, lo, zext16]
    simp
  rw [crcByte, crcBits_eight, hlo, xor_zext16_shiftRight_eight]

/-- A byte equal to the register's low byte leaves the high byte. -/
theorem crcByte_lo (c : Word) : crcByte c (lo c) = zext16 (hi c) := by
  rw [crcByte_eq, BitVec.xor_self, crcByte_zero_zero, BitVec.zero_xor, zext16_hi]

/-! Feeding a byte bit by bit. -/

/-- One step of the bit-serial form: bit `i` of the byte goes in before the bit step. -/
def feedBit (b : Byte) (r : Word) (i : Nat) : Word := crcBit (r ^^^ ((zext16 b >>> i) &&& 1))

/-- A word without its bit 0 steps to its half. -/
theorem crcBit_xor_bit_zero (w : Word) : crcBit (w ^^^ (w &&& 1)) = w >>> 1 := by
  have hlow : ∀ i < 1, (w ^^^ (w &&& 1)).getLsbD i = false := by
    intro i hi
    simp [show i = 0 by omega]
  have hshift : (w &&& 1) >>> 1 = 0#16 := by
    refine BitVec.eq_of_getLsbD_eq fun i _ => ?_
    simp [BitVec.getLsbD_and]
  have h : crcBit (w ^^^ (w &&& 1)) = (w ^^^ (w &&& 1)) >>> 1 := crcBits_of_low_zero hlow
  rw [h, BitVec.ushiftRight_xor_distrib, hshift, BitVec.xor_zero]

/-- After `n` bits the register differs from `n` steps of the whole sum by the bits still to come. -/
theorem foldl_feedBit (b : Byte) (c : Word) (n : Nat) :
    (List.range n).foldl (feedBit b) c = crcBits n (c ^^^ zext16 b) ^^^ (zext16 b >>> n) := by
  induction n with
  | zero =>
    rw [BitVec.ushiftRight_zero, crcBits, BitVec.xor_assoc, BitVec.xor_self, BitVec.xor_zero]
    rfl
  | succ n ih =>
    rw [List.range_succ, List.foldl_append, ih, List.foldl_cons, List.foldl_nil, feedBit, BitVec.xor_assoc,
      crcBit_xor, crcBit_xor_bit_zero, BitVec.shiftRight_add, Nat.add_comm n 1, crcBits_add]
    rfl

/-- Settles O7: linearity moves each bit of the byte to the front. -/
theorem crcByteIsEightBitSteps : Obligations.CrcByteIsEightBitSteps := by
  refine ⟨fun c b => crcBits_eq_iterate 8 _, fun c b => ?bitwise, crcByte_lo⟩
  case bitwise =>
    have h := foldl_feedBit b c 8
    rw [zext16_shiftRight_eight, BitVec.xor_zero] at h
    exact h.symm

/-! The checksum of a sequence (R42, R48). -/

theorem checksum_eq_crcFold (bs : Bytes) : checksum bs = crcFold 0#16 bs := BitVec.xor_zero

theorem crcFold_append (c : Word) (s t : Bytes) : crcFold c (s ++ t) = crcFold (crcFold c s) t :=
  List.foldl_append

theorem checksum_append (s t : Bytes) : checksum (s ++ t) = crcFold (checksum s) t := by
  rw [checksum_eq_crcFold, checksum_eq_crcFold, crcFold_append]

theorem crcFold_zipWith_xor {s t : Bytes} (h : s.length = t.length) (c d : Word) :
    crcFold (c ^^^ d) (List.zipWith (· ^^^ ·) s t) = crcFold c s ^^^ crcFold d t := by
  induction s generalizing t c d with
  | nil =>
    obtain rfl := List.length_eq_zero_iff.mp h.symm
    rfl
  | cons a s ih =>
    match t, h with
    | b :: t, h =>
      simp only [List.zipWith_cons_cons, crcFold, List.foldl_cons, crcByte_xor]
      exact ih (Nat.succ_injective h) _ _

theorem crcFold_replicate_zero (k : Nat) : crcFold 0#16 (List.replicate k 0#8) = 0#16 := by
  induction k with
  | zero => rfl
  | succ k ih => exact ih

/-- Settles O8: every law is the bit step's linearity carried through the folds. -/
theorem checksumIsLinear : Obligations.ChecksumIsLinear := by
  refine ⟨rfl, crcBit_xor, crcByte_xor, fun s t h => ?linear, fun k s => ?zeros, checksum_append⟩
  case linear =>
    simp only [checksum_eq_crcFold]
    exact crcFold_zipWith_xor h 0 0
  case zeros =>
    rw [checksum_eq_crcFold, crcFold_append, checksum_eq_crcFold]
    exact congrArg (crcFold · s) (crcFold_replicate_zero k)

/-! The printed table (R47). -/

/-- The 256 printed values against the 256 byte steps, which the kernel evaluates. -/
theorem crcTable_eq_map : crcTable = (List.range 256).map fun i => crcByte 0#16 (BitVec.ofNat 8 i) := by
  decide +kernel

theorem crcTable_getElem? (i : Byte) : crcTable[i.toNat]? = some (crcByte 0#16 i) := by
  have hi : i.toNat < 256 := i.isLt
  rw [crcTable_eq_map, List.getElem?_map, List.getElem?_range hi, Option.map_some, BitVec.ofNat_toNat,
    BitVec.setWidth_eq]

theorem and_255_toNat (x : Word) : (x &&& 0xFF).toNat = (lo x).toNat := by
  rw [BitVec.toNat_and, lo_toNat]
  exact Nat.and_two_pow_sub_one_eq_mod x.toNat 8

/-- Settles O9: the table form is the split of eight bit steps into low and high byte. -/
theorem tableFormEqualsBitSerial : Obligations.TableFormEqualsBitSerial := by
  refine ⟨?length, crcTable_getElem?, fun c b => ?step⟩
  case length => rw [crcTable_eq_map, List.length_map, List.length_range]
  case step =>
    show _ = crcBits 8 (c ^^^ zext16 b)
    rw [crcByteTable, and_255_toNat, List.getD_eq_getElem?_getD, crcTable_getElem?, Option.getD_some,
      crcBits_eight, xor_zext16_shiftRight_eight, BitVec.xor_comm]

/-! Two check bytes behind a sequence (R49). -/

theorem le16_eq_xor (l h : Byte) : le16 l h = zext16 l ^^^ (zext16 h <<< 8) := by
  refine BitVec.eq_of_getLsbD_eq fun i hi => ?_
  rw [le16, BitVec.getLsbD_or, BitVec.getLsbD_xor, BitVec.getLsbD_shiftLeft, getLsbD_zext16]
  by_cases h8 : i < 8
  · simp [h8]
  · simp [BitVec.getLsbD_of_ge l i (by omega)]

/-- Eight bit steps bring a high byte down unchanged. -/
theorem crcBits_eight_high (h : Byte) : crcBits 8 (zext16 h <<< 8) = zext16 h := by
  rw [crcBits_of_low_zero fun i hi => by simp [hi]]
  refine BitVec.eq_of_getLsbD_eq fun i hi => ?_
  by_cases h8 : i < 8
  · simp [show 8 + i < 16 by omega, BitVec.getLsbD_eq_getElem hi]
  · simp [getLsbD_zext16, BitVec.getLsbD_of_ge h i (by omega), show ¬ 8 + i < 16 by omega]

/-- Two bytes at once: the 16-bit value they form goes into the register, then sixteen bit steps. -/
theorem crcFold_pair (c : Word) (l h : Byte) : crcFold c [l, h] = crcBits 16 (c ^^^ le16 l h) := by
  calc crcFold c [l, h]
      = crcBits 8 (crcBits 8 (c ^^^ zext16 l) ^^^ zext16 h) := rfl
    _ = crcBits 8 (crcBits 8 (c ^^^ zext16 l) ^^^ crcBits 8 (zext16 h <<< 8)) := by rw [crcBits_eight_high]
    _ = crcBits 16 (c ^^^ le16 l h) := by
      rw [← crcBits_xor, BitVec.xor_assoc, ← le16_eq_xor, ← crcBits_add 8 8]

theorem checksum_append_pair (s : Bytes) (l h : Byte) :
    checksum (s ++ [l, h]) = crcBits 16 (checksum s ^^^ le16 l h) := by
  rw [checksum_append, crcFold_pair]

theorem crcBits_sixteen_ones : crcBits 16 0xFFFF = 0xB001 := by decide +kernel

theorem not_xor_self_word (c : Word) : ~~~c ^^^ c = 0xFFFF#16 := by
  rw [← BitVec.not_xor_left, BitVec.xor_self]
  rfl

/-- Settles O10: the register and the appended value cancel to all zeros, or to all ones. -/
theorem checksumResidues : Obligations.ChecksumResidues := by
  intro s
  constructor
  · rw [checksum_append_pair, le16_lo_hi, BitVec.xor_self]
    exact crcBits_zero_word 16
  · rw [checksum_append_pair, le16_lo_hi, BitVec.xor_comm, not_xor_self_word]
    exact crcBits_sixteen_ones

/-! Nothing is lost in a bit step: the polynomial's top bit tells which way it went. -/

theorem crcBit_eq_zero {c : Word} (h : crcBit c = 0#16) : c = 0#16 := by
  have hc := c.isLt
  have hmod : ∀ x, x = c.toNat / 2 → x % 65536 = x := fun x hx => by omega
  by_cases hodd : c.toNat % 2 = 1
  · rw [crcBit_of_odd hodd, BitVec.xor_eq_zero_iff, ← BitVec.toNat_inj, BitVec.toNat_ofNat] at h
    have : c.toNat / 2 = 0xA001 := by simpa [hmod] using h
    omega
  · rw [crcBit_of_not_odd hodd, ← BitVec.toNat_inj, BitVec.toNat_ofNat] at h
    have : c.toNat / 2 = 0 := by simpa [hmod] using h
    exact BitVec.eq_of_toNat_eq (show c.toNat = 0 by omega)

theorem crcBit_injective : Function.Injective crcBit := by
  intro x y h
  rw [← BitVec.xor_eq_zero_iff] at h ⊢
  exact crcBit_eq_zero (by rw [crcBit_xor, h])

theorem crcBits_injective (n : Nat) : Function.Injective (crcBits n) := by
  rw [show crcBits n = crcBit^[n] from funext (crcBits_eq_iterate n)]
  exact crcBit_injective.iterate n

/-- A sequence leads different registers to different checksums. -/
theorem crcFold_injective (bs : Bytes) : Function.Injective (crcFold · bs) := by
  induction bs with
  | nil => exact Function.injective_id
  | cons b bs ih =>
    intro x y h
    exact (BitVec.xor_left_inj _).mp (crcBits_injective 8 (ih h))

/-! The checksum operation and its streamed form (R46). -/

@[simp] theorem exec_checksum (bs : Bytes) (s : State) :
    exec (.checksum bs) s = .next (deliver (.ok (.word (checksum bs))) (s.setCrc (checksum bs))) := rfl

theorem execAll_cons_next {i : Instr} {s t : State} (h : exec i s = .next t) (is : List Instr) :
    execAll (i :: is) s = execAll is t := by
  rw [execAll, h]

/-- The bytes of a streamed checksum, from any register value. -/
theorem execAll_streamed (bs : Bytes) (s : State) :
    ∃ t, execAll (bs.map .crcUpd ++ [.crcRd]) s = .next t ∧ t.crc = crcFold s.crc bs ∧
      t.hostOut.getLast? = some (.ok (.word (crcFold s.crc bs))) ∧
      t.history = s.history ∧ t.wrIn = s.wrIn ∧ t.rdIn = s.rdIn ∧ t.txBuf = s.txBuf ∧ t.rxBuf = s.rxBuf := by
  induction bs generalizing s with
  | nil => exact ⟨_, rfl, rfl, List.getLast?_concat, rfl, rfl, rfl, rfl, rfl⟩
  | cons b bs ih =>
    rw [List.map_cons, List.cons_append, execAll_cons_next (exec_crcUpd b s)]
    exact ih _

/-- Settles O14: the streamed form starts from a cleared register and folds one byte at a time. -/
theorem checksumEqualsStreamedForm : Obligations.ChecksumEqualsStreamedForm := by
  intro bs s
  refine ⟨by rw [exec_checksum, deliver_ok, State.setCrc], ?streamed⟩
  case streamed =>
    rw [List.cons_append, execAll_cons_next (exec_crcClr s), checksum_eq_crcFold]
    exact execAll_streamed bs _

end Sys2Proof.Machine
end

section
/-! PROOFS. The validity test of a response frame: its forms, its one pair of check bytes, and what `PFX` does to it (42_frame_decode.md R71, R72, R76). -/

namespace Sys2Proof.Machine

theorem checkPasses_iff_eq_not {rx c : Word} : checkPasses rx c = true ↔ rx = ~~~c := by
  rw [checkPasses_eq_true_iff, BitVec.not_eq_comm, eq_comm]

/-- A frame validates exactly when its check value is the complement of its context's checksum (R76). -/
theorem decPage_eq_some_iff {first : Bool} {pfx f d : Bytes} :
    decPage first pfx f = some d ↔ frameRx f = ~~~(frameChecksum first pfx f) ∧ d = frameData f := by
  rw [decPage, Option.ite_none_right_eq_some, checkPasses_iff_eq_not, Option.some_inj, eq_comm (a := d)]

theorem decPage_eq_none_iff {first : Bool} {pfx f : Bytes} :
    decPage first pfx f = none ↔ frameRx f ≠ ~~~(frameChecksum first pfx f) := by
  rw [Option.eq_none_iff_forall_ne_some]
  simp [decPage_eq_some_iff]

theorem byte_xor_ones (b : Byte) : b ^^^ 0xFF = ~~~b := BitVec.xor_allOnes

theorem lo_not (c : Word) : lo (~~~c) = lo c ^^^ 0xFF := by
  rw [byte_xor_ones, lo, lo, BitVec.setWidth_not (by decide)]

theorem hi_not (c : Word) : hi (~~~c) = hi c ^^^ 0xFF := by
  rw [byte_xor_ones]
  refine BitVec.eq_of_getLsbD_eq fun i hi => ?_
  simp [Machine.hi, hi, show 8 + i < 16 by omega]

theorem le16_eq_iff {l h : Byte} {w : Word} : le16 l h = w ↔ l = lo w ∧ h = hi w := by
  constructor
  · rintro rfl
    simp
  · rintro ⟨rfl, rfl⟩
    exact le16_lo_hi w

section Frame

variable {d : Bytes} (hd : d.length = 32) (first : Bool) (pfx : Bytes) (l h : Byte)
include hd

/-- The test of R76 on a frame given as data and check bytes. -/
theorem decPage_append_eq_some_iff :
    decPage first pfx (d ++ [l, h]) = some d ↔ le16 l h = ~~~(checksum (context first pfx d)) := by
  rw [decPage_eq_some_iff, frameRx_append hd, frameChecksum_append hd, frameData_append hd]
  exact and_iff_left rfl

theorem decPage_append_eq_none_iff :
    decPage first pfx (d ++ [l, h]) = none ↔ le16 l h ≠ ~~~(checksum (context first pfx d)) := by
  rw [decPage_eq_none_iff, frameRx_append hd, frameChecksum_append hd]

end Frame

/-- Settles O21: the pair is the two bytes of the complemented checksum. -/
theorem exactlyOneCheckPair : Obligations.ExactlyOneCheckPair := by
  intro first pfx d hd
  refine ⟨(lo (~~~(checksum (context first pfx d))), hi (~~~(checksum (context first pfx d)))), ?valid, ?unique⟩
  case valid => exact (decPage_append_eq_some_iff hd ..).mpr (le16_lo_hi _)
  case unique =>
    rintro ⟨l, h⟩ hv
    obtain ⟨hl, hh⟩ := le16_eq_iff.mp ((decPage_append_eq_some_iff hd ..).mp hv)
    exact Prod.ext hl hh

theorem xor_eq_ones_iff {x c : Word} : x ^^^ c = 0xFFFF#16 ↔ x = ~~~c := by
  rw [← not_xor_self_word c, BitVec.xor_left_inj]

/-- Settles O22: each form is the equation `check value = complement of the checksum` rewritten; the last is
the residue of R49, to which no other register value leads. -/
theorem validityTestForms : Obligations.ValidityTestForms := by
  intro first pfx d l h hd c
  rw [decPage_append_eq_some_iff hd, decPage_append_eq_none_iff hd]
  refine ⟨?not, Iff.rfl, xor_eq_ones_iff.symm, ?bytes, ?residue, Iff.rfl⟩
  case not => rw [BitVec.not_eq_comm, eq_comm]
  case bytes => rw [le16_eq_iff, lo_not, hi_not]
  case residue =>
    rw [checksum_append_pair, ← crcBits_sixteen_ones, (crcBits_injective 16).eq_iff, BitVec.xor_comm]
    exact xor_eq_ones_iff.symm

/-- Settles O23: the register that `PFX` leaves is carried through the data without loss. -/
theorem pageContextsDiffer : Obligations.PageContextsDiffer := by
  intro pfx f _ hfirst
  obtain ⟨hrx, -⟩ := decPage_eq_some_iff.mp hfirst
  have hlater : decPage false pfx f = some (frameData f) ↔
      frameChecksum true pfx f = frameChecksum false pfx f := by
    rw [decPage_eq_some_iff, hrx]
    simp
  have htrue : frameChecksum true pfx f = crcFold (checksum pfx) (frameData f) := checksum_append ..
  have hfalse : frameChecksum false pfx f = crcFold 0 (frameData f) := checksum_eq_crcFold _
  rw [hlater, htrue, hfalse]
  exact (crcFold_injective (frameData f)).eq_iff

end Sys2Proof.Machine
end

section
/-! PROOFS. How a read transaction runs: the single advances of R83, where a run stops, and what every run keeps (43_read_transaction.md R83, R84). -/

namespace Sys2Proof.Machine

open Relation (ReflTransGen)

/-- A READMEM in progress makes one channel call that is answered, or goes from its last page to the
reset (R83). -/
inductive Advance : State → State → Prop where
  | command {s : State} {rest : List WriteAnswer} (hp : s.phase = .cmd) (hw : s.wrIn = .ok :: rest) :
      Advance s ((s.wrote (readFrame Config.params s) .ok rest).setPhase .page)
  | commandFails {s : State} {e : IOError} {rest : List WriteAnswer} (hp : s.phase = .cmd)
      (hw : s.wrIn = .err e :: rest) :
      Advance s (enterReset (some ⟨.channelError e, some 0, none⟩)
        (s.wrote (readFrame Config.params s) (.err e) rest))
  | page {s : State} {f : Bytes} {rest : List RxItem} (hp : s.phase = .page) (hk : s.k < s.n)
      (hl : f.length = 34) (hr : s.rdIn = f.map .byte ++ rest)
      (hc : checkPasses (frameRx f) (frameChecksum s.first s.pfx f) = true) :
      Advance s (acceptPage f (loadPage f (s.read 34 (.ok f) rest)))
  | badPage {s : State} {f : Bytes} {rest : List RxItem} (hp : s.phase = .page) (hk : s.k < s.n)
      (hl : f.length = 34) (hr : s.rdIn = f.map .byte ++ rest)
      (hc : checkPasses (frameRx f) (frameChecksum s.first s.pfx f) = false) :
      Advance s (enterReset (pageError .checksumFault s) (loadPage f (s.read 34 (.ok f) rest)))
  | pageFails {s : State} {part : Bytes} {e : IOError} {rest : List RxItem} (hp : s.phase = .page)
      (hk : s.k < s.n) (hl : part.length < 34) (hr : s.rdIn = part.map .byte ++ .fail e :: rest) :
      Advance s (enterReset (pageError (.channelError e) s) (s.read 34 (.err e) rest))
  | pagesDone {s : State} (hp : s.phase = .page) (hk : s.n ≤ s.k) : Advance s (enterReset none s)

/-- A READMEM in progress waits for the answer to its next channel call (R124). -/
inductive Blocked : State → Prop where
  | write {s : State} (hp : s.phase = .cmd ∨ s.phase = .reset) (hw : s.wrIn = []) : Blocked s
  | read {s : State} {part : Bytes} (hp : s.phase = .page) (hk : s.k < s.n) (hl : part.length < 34)
      (hr : s.rdIn = part.map .byte) : Blocked s

/-- Where a run of READMEM stops: `Stops u t` when it makes no advance from `u` and leaves `t`. -/
inductive Stops : State → State → Prop where
  | blocked {u : State} (hb : Blocked u) : Stops u u
  | ended {u : State} {rr : WriteAnswer} {rest : List WriteAnswer} (hp : u.phase = .reset)
      (hw : u.wrIn = rr :: rest) : Stops u (finishRead rr (u.wrote [] rr rest))

/-- The transaction in progress, run as far as the channel has answered. -/
def continueRead (s : State) : State :=
  match s.phase with
  | .cmd => cmdPhase Config.params s
  | .page => pagePhase s
  | .reset => resetPhase s
  | .idle => s

theorem step_of_busy {s : State} (h : s.phase ≠ .idle) : step s = .next (continueRead s) := by
  unfold step stepBlock continueRead
  cases hp : s.phase with
  | cmd | page | reset => rfl
  | idle => exact absurd hp h

theorem continueRead_of_cmd {s : State} (h : s.phase = .cmd) : continueRead s = cmdPhase Config.params s := by
  rw [continueRead, h]

theorem continueRead_of_page {s : State} (h : s.phase = .page) :
    continueRead s = readPages (s.n - s.k) s := by
  rw [continueRead, h, pagePhase]

theorem continueRead_of_reset {s : State} (h : s.phase = .reset) : continueRead s = resetPhase s := by
  rw [continueRead, h]

theorem chRead_short {s : State} {n : Nat} {part : Bytes} (hl : part.length < n) (hr : s.rdIn = part.map .byte) :
    chRead n s = none := by
  rw [chRead, hr, takeRead_short part hl]

/-! The two ends of a run. -/

theorem continueRead_of_stops {s t : State} (h : Stops s t) : continueRead s = t := by
  cases h with
  | blocked hb =>
    cases hb with
    | write hp hw =>
      have hwait : ∀ bs, chWrite bs s = none := fun _ => chWrite_eq_none.mpr hw
      obtain hp | hp := hp
      · rw [continueRead_of_cmd hp, cmdPhase, hwait]
      · rw [continueRead_of_reset hp, resetPhase, hwait]
    | read hp hk hl hr =>
      have hwait := chRead_short hl hr
      obtain ⟨m, hm⟩ := Nat.exists_eq_succ_of_ne_zero (Nat.sub_ne_zero_of_lt hk)
      rw [continueRead_of_page hp, hm, readPages_wait hwait]
  | ended hp hw =>
    rw [continueRead_of_reset hp, resetPhase, chWrite_eq_some.mpr ⟨_, hw, rfl⟩]

/-! A run does not depend on how many of its advances are already made. -/

theorem continueRead_of_advance {s s' : State} (h : Advance s s') : continueRead s = continueRead s' := by
  have hfuel : s.k < s.n → s.n - s.k = s.n - (s.k + 1) + 1 := by omega
  cases h with
  | command hp hw =>
    rw [continueRead_of_cmd hp, cmdPhase, chWrite_eq_some.mpr ⟨_, hw, rfl⟩]
    rfl
  | commandFails hp hw =>
    rw [continueRead_of_cmd hp, cmdPhase, chWrite_eq_some.mpr ⟨_, hw, rfl⟩]
    rfl
  | @page f rest hp hk hl hr hc =>
    have hp' : (acceptPage f (loadPage f (s.read 34 (.ok f) rest))).phase = .page := hp
    rw [continueRead_of_page hp, hfuel hk, readPages_good (chRead_bytes hl hr) hc, continueRead_of_page hp']
    rfl
  | badPage hp hk hl hr hc =>
    rw [continueRead_of_page hp, hfuel hk, readPages_bad (chRead_bytes hl hr) hc]
    rfl
  | pageFails hp hk hl hr =>
    rw [continueRead_of_page hp, hfuel hk, readPages_fail (chRead_fail hl hr)]
    rfl
  | pagesDone hp hk =>
    rw [continueRead_of_page hp, Nat.sub_eq_zero_of_le hk]
    rfl

theorem continueRead_of_advances {s u : State} (h : ReflTransGen Advance s u) :
    continueRead s = continueRead u := by
  induction h with
  | refl => rfl
  | tail _ hstep ih => exact ih.trans (continueRead_of_advance hstep)

/-- A run that stops from `u` is known. -/
theorem continueRead_eq {s u t : State} (h : ReflTransGen Advance s u) (ht : Stops u t) :
    continueRead s = t :=
  (continueRead_of_advances h).trans (continueRead_of_stops ht)

/-! Every run makes some advances and then stops. -/

theorem stops_or_advances {s : State} (h : s.phase ≠ .idle) :
    (∃ t, Stops s t) ∨ ∃ s', Advance s s' := by
  cases hp : s.phase with
  | idle => exact absurd hp h
  | cmd =>
    match hw : s.wrIn with
    | [] => exact .inl ⟨s, .blocked (.write (.inl hp) hw)⟩
    | .ok :: _ => exact .inr ⟨_, .command hp hw⟩
    | .err _ :: _ => exact .inr ⟨_, .commandFails hp hw⟩
  | reset =>
    match hw : s.wrIn with
    | [] => exact .inl ⟨s, .blocked (.write (.inr hp) hw)⟩
    | _ :: _ => exact .inl ⟨_, .ended hp hw⟩
  | page =>
    by_cases hk : s.k < s.n
    · obtain ⟨f, rest, hl, hr⟩ | ⟨part, e, rest, hl, hr⟩ | ⟨part, hl, hr⟩ := stream_cases 34 s.rdIn
      · cases hc : checkPasses (frameRx f) (frameChecksum s.first s.pfx f) with
        | true => exact .inr ⟨_, .page hp hk hl hr hc⟩
        | false => exact .inr ⟨_, .badPage hp hk hl hr hc⟩
      · exact .inr ⟨_, .pageFails hp hk hl hr⟩
      · exact .inl ⟨s, .blocked (.read hp hk hl hr)⟩
    · exact .inr ⟨_, .pagesDone hp (Nat.le_of_not_lt hk)⟩

/-- What is left to do, at most: a phase, or a page. -/
def advancesLeft (s : State) : Nat :=
  match s.phase with
  | .cmd => s.n - s.k + 2
  | .page => s.n - s.k + 1
  | .reset | .idle => 0

theorem advancesLeft_lt {s s' : State} (h : Advance s s') : advancesLeft s' < advancesLeft s := by
  cases h with
  | command hp hw => simp [advancesLeft, hp]
  | commandFails hp hw => simp [advancesLeft, hp]
  | page hp hk =>
    have hlt : s.n - (s.k + 1) < s.n - s.k := by omega
    simpa [advancesLeft, hp] using hlt
  | badPage hp => simp [advancesLeft, hp]
  | pageFails hp => simp [advancesLeft, hp]
  | pagesDone hp => simp [advancesLeft, hp]

theorem phase_ne_idle_of_blocked {s : State} (h : Blocked s) : s.phase ≠ .idle := by
  cases h with
  | write hp => obtain hp | hp := hp <;> simp [hp]
  | read hp => simp [hp]

theorem phase_ne_idle_of_advance {s s' : State} (h : Advance s s') : s'.phase ≠ .idle := by
  cases h with
  | command | commandFails | badPage | pageFails | pagesDone => simp
  | page hp => simp [hp]

/-- What a run of READMEM does, said once. -/
theorem continueRead_run {s : State} (h : s.phase ≠ .idle) :
    ∃ u, ReflTransGen Advance s u ∧ Stops u (continueRead s) := by
  obtain ⟨t, ht⟩ | ⟨s', hs⟩ := stops_or_advances h
  · exact ⟨s, .refl, continueRead_of_stops ht ▸ ht⟩
  · have hlt := advancesLeft_lt hs
    obtain ⟨u, hu, ht⟩ := continueRead_run (phase_ne_idle_of_advance hs)
    exact ⟨u, .head hs hu, continueRead_of_advance hs ▸ ht⟩
termination_by advancesLeft s

/-! The result of a run's end. -/

/-- The error READMEM answers: the one it met, or else the failed reset write's own (R85). -/
def readError (met : Option OpError) (rr : WriteAnswer) : Option OpError :=
  match met, rr with
  | some e, _ => some { e with resetFailed := some rr.failed }
  | none, .err e => some ⟨.channelError e, none, some true⟩
  | none, .ok => none

theorem readError_eq_none {met : Option OpError} {rr : WriteAnswer} (h : readError met rr = none) :
    met = none ∧ rr = .ok := by
  cases met <;> cases rr <;> simp_all [readError]

theorem finishRead_of_error {s : State} {rr : WriteAnswer} {e : OpError} (h : readError s.rdErr rr = some e) :
    finishRead rr s = deliver (.err e) (discardBlk ((s.setRdErr none).setPhase .idle)) := by
  unfold finishRead
  cases hm : s.rdErr <;> cases rr <;> simp_all [readError, WriteAnswer.failed]

theorem finishRead_of_ok {s : State} (h : s.rdErr = none) :
    finishRead .ok s = deliver (.ok (.bytes s.blk)) ((s.setRdErr none).setPhase .idle) := by
  simp only [finishRead, h, succeed_eq]

end Sys2Proof.Machine
end

section
/-! PROOFS. What every run of a read transaction keeps: the other elements, the order of the phases, the channel's answers, the invariant (10_state.md R14 to R18, 20_memory.md R27, R28). -/

namespace Sys2Proof.Machine

open Relation (ReflTransGen)

/-! The elements READMEM does not write after its start, and the growth of the others. -/

/-- The order of the phases (R14). -/
def Phase.rank : Phase → Nat
  | .cmd => 0
  | .page => 1
  | .reset => 2
  | .idle => 3

/-- What a transaction in progress keeps until its end. -/
structure Keeps (s t : State) : Prop where
  txBuf : t.txBuf = s.txBuf
  pfx : t.pfx = s.pfx
  n : t.n = s.n
  waiting : t.waiting = s.waiting
  hostIn : t.hostIn = s.hostIn
  k_le : s.k ≤ t.k
  rank_le : s.phase.rank ≤ t.phase.rank

theorem Keeps.trans {s t u : State} (h : Keeps s t) (g : Keeps t u) : Keeps s u where
  txBuf := g.txBuf.trans h.txBuf
  pfx := g.pfx.trans h.pfx
  n := g.n.trans h.n
  waiting := g.waiting.trans h.waiting
  hostIn := g.hostIn.trans h.hostIn
  k_le := h.k_le.trans g.k_le
  rank_le := h.rank_le.trans g.rank_le

theorem keeps_of_advance {s s' : State} (h : Advance s s') : Keeps s s' := by
  cases h with
  | command hp => exact ⟨rfl, rfl, rfl, rfl, rfl, le_rfl, by simp [hp, Phase.rank]⟩
  | commandFails hp => exact ⟨rfl, rfl, rfl, rfl, rfl, le_rfl, by simp [hp, Phase.rank]⟩
  | page => exact ⟨rfl, rfl, rfl, rfl, rfl, Nat.le_succ _, le_rfl⟩
  | badPage hp => exact ⟨rfl, rfl, rfl, rfl, rfl, le_rfl, by simp [hp, Phase.rank]⟩
  | pageFails hp => exact ⟨rfl, rfl, rfl, rfl, rfl, le_rfl, by simp [hp, Phase.rank]⟩
  | pagesDone hp => exact ⟨rfl, rfl, rfl, rfl, rfl, le_rfl, by simp [hp, Phase.rank]⟩

theorem keeps_of_advances {s u : State} (h : ReflTransGen Advance s u) : Keeps s u := by
  induction h with
  | refl => exact ⟨rfl, rfl, rfl, rfl, rfl, le_rfl, le_rfl⟩
  | tail _ hstep ih => exact ih.trans (keeps_of_advance hstep)

/-- What the end of a transaction does, said once. -/
theorem finishRead_deliver (rr : WriteAnswer) (s : State) :
    ∃ r blk, finishRead rr s = deliver r { (s.setRdErr none).setPhase .idle with blk := blk } ∧
      (blk = s.blk ∨ blk = []) := by
  obtain ⟨-, -, h⟩ | ⟨e, h⟩ := finishRead_cases rr s
  · exact ⟨_, s.blk, h, .inl rfl⟩
  · exact ⟨_, [], h, .inr rfl⟩

theorem keeps_of_stops {u t : State} (h : Stops u t) : Keeps u t := by
  cases h with
  | blocked => exact ⟨rfl, rfl, rfl, rfl, rfl, le_rfl, le_rfl⟩
  | @ended rr rest hp hw =>
    obtain ⟨r, blk, h, -⟩ := finishRead_deliver rr (u.wrote [] rr rest)
    rw [h]
    exact ⟨rfl, rfl, rfl, rfl, rfl, le_rfl, by simp [hp, Phase.rank]⟩

theorem keeps_continueRead {s : State} (h : s.phase ≠ .idle) : Keeps s (continueRead s) := by
  obtain ⟨u, hu, ht⟩ := continueRead_run h
  exact (keeps_of_advances hu).trans (keeps_of_stops ht)

/-! The result port and STATUS. -/

/-- Nothing is answered, or one result, of which `STATUS` is the register form, and no transaction is then in
progress (R16, R107). -/
inductive Reports (s t : State) : Prop where
  | nothing (hostOut : t.hostOut = s.hostOut) (status : t.status = s.status)
  | result (r : Result) (hostOut : t.hostOut = s.hostOut ++ [r]) (status : t.status = statusOf r)
      (phase : t.phase = .idle) (waiting : t.waiting = s.waiting)

theorem silent_of_advances {s u : State} (h : ReflTransGen Advance s u) :
    u.hostOut = s.hostOut ∧ u.status = s.status := by
  induction h with
  | refl => exact ⟨rfl, rfl⟩
  | tail _ hstep ih => cases hstep <;> exact ih

theorem reports_continueRead {s : State} (h : s.phase ≠ .idle) : Reports s (continueRead s) := by
  have hw := (keeps_continueRead h).waiting
  obtain ⟨u, hu, ht⟩ := continueRead_run h
  obtain ⟨hout, hstatus⟩ := silent_of_advances hu
  revert ht hw
  generalize continueRead s = t
  rintro hw (hb | ⟨hp, hans⟩)
  · exact .nothing hout hstatus
  · rename_i rr rest
    obtain ⟨r, blk, h, -⟩ := finishRead_deliver rr (u.wrote [] rr rest)
    rw [h] at hw ⊢
    exact .result r (congrArg (· ++ [r]) hout) rfl rfl hw

/-! The channel's answers (R27, R28, R30). -/

/-- From `s` to `t` events were appended that used up the channel's answers in order; unless a read failed,
the stream moved on by the bytes they delivered. -/
def Consumes (s t : State) : Prop :=
  ∃ (evs : List Event) (taken : List RxItem), t.history = s.history ++ evs ∧
    s.wrIn = evs.flatMap Event.outcomes ++ t.wrIn ∧ s.rdIn = taken ++ t.rdIn ∧
    ((∀ e ∈ evs, e.noFailedRead) → taken = (evs.flatMap Event.delivered).map .byte)

theorem Consumes.of_eq {s t : State} (hh : t.history = s.history) (hw : t.wrIn = s.wrIn)
    (hr : t.rdIn = s.rdIn) : Consumes s t :=
  ⟨[], [], by simp [hh], by simp [hw], by simp [hr], fun _ => rfl⟩

theorem Consumes.refl (s : State) : Consumes s s := .of_eq rfl rfl rfl

theorem Consumes.trans {s t u : State} (h : Consumes s t) (g : Consumes t u) : Consumes s u := by
  obtain ⟨evs, taken, hh, hw, hr, hb⟩ := h
  obtain ⟨evs', taken', hh', hw', hr', hb'⟩ := g
  refine ⟨evs ++ evs', taken ++ taken', by simp [hh', hh], by simp [hw, hw'], by simp [hr, hr'], fun hall => ?_⟩
  rw [hb fun e he => hall e (List.mem_append_left _ he), hb' fun e he => hall e (List.mem_append_right _ he),
    List.flatMap_append, List.map_append]

theorem Consumes.of_write {s t : State} {bs : Bytes} {a : WriteAnswer} (hh : t.history = s.history ++ [.w bs a])
    (hw : s.wrIn = a :: t.wrIn) (hr : t.rdIn = s.rdIn) : Consumes s t :=
  ⟨[.w bs a], [], hh, hw, hr.symm, fun _ => rfl⟩

theorem Consumes.of_read {s t : State} {n : Nat} {bs : Bytes} (hh : t.history = s.history ++ [.r n (.ok bs)])
    (hw : t.wrIn = s.wrIn) (hr : s.rdIn = bs.map .byte ++ t.rdIn) : Consumes s t :=
  ⟨[.r n (.ok bs)], bs.map .byte, hh, hw.symm, hr, fun _ => by simp [Event.delivered]⟩

theorem Consumes.of_failed_read {s t : State} {n : Nat} {part : Bytes} {e : IOError}
    (hh : t.history = s.history ++ [.r n (.err e)]) (hw : t.wrIn = s.wrIn)
    (hr : s.rdIn = part.map .byte ++ .fail e :: t.rdIn) : Consumes s t :=
  ⟨[.r n (.err e)], part.map .byte ++ [.fail e], hh, hw.symm, by simp [hr],
    fun hall => absurd (hall _ (List.mem_singleton_self _)) id⟩

theorem consumes_of_advance {s s' : State} (h : Advance s s') : Consumes s s' := by
  cases h with
  | command hp hw => exact .of_write rfl hw rfl
  | commandFails hp hw => exact .of_write rfl hw rfl
  | page hp hk hl hr hc => exact .of_read rfl rfl hr
  | badPage hp hk hl hr hc => exact .of_read rfl rfl hr
  | pageFails hp hk hl hr => exact .of_failed_read rfl rfl hr
  | pagesDone hp hk => exact .of_eq rfl rfl rfl

theorem consumes_of_stops {u t : State} (h : Stops u t) : Consumes u t := by
  cases h with
  | blocked => exact .refl u
  | @ended rr rest hp hw =>
    obtain ⟨r, blk, h, -⟩ := finishRead_deliver rr (u.wrote [] rr rest)
    rw [h]
    exact .of_write rfl hw rfl

theorem consumes_continueRead {s : State} (h : s.phase ≠ .idle) : Consumes s (continueRead s) := by
  obtain ⟨u, hu, ht⟩ := continueRead_run h
  refine Consumes.trans ?_ (consumes_of_stops ht)
  clear ht
  induction hu with
  | refl => exact .refl s
  | tail _ hstep ih => exact ih.trans (consumes_of_advance hstep)

/-! The invariant of a transaction between two of its channel calls. -/

/-- `State.Inv` and `State.TransactionInv` without the bound `K < N` of phase PAGE, which fails between the
last page and the reset. -/
structure RunInv (s : State) : Prop where
  busy : s.phase ≠ .idle
  txLen_le : s.txLen ≤ 35
  rxBuf_length : s.rxBuf.length ≤ 35
  pfx_length : s.pfx.length = 3
  first_iff : s.first = true ↔ s.k = 0
  blk_length : s.blk.length = 32 * s.k
  n_pos : 0 < s.n
  k_le : s.k ≤ s.n
  not_waiting : s.waiting = none
  cmd : s.phase = .cmd → s.k = 0
  rdErr : s.phase ≠ .reset → s.rdErr = none
  reset : s.phase = .reset → s.rdErr = none → s.k = s.n
  history_sized : ∀ e ∈ s.history, e.sized

theorem runInv_of_inv {s : State} (h : s.Inv) (hp : s.phase ≠ .idle) : RunInv s := by
  have ht := h.transaction hp
  refine ⟨hp, h.txLen_le, h.rxBuf_length, ht.pfx_length, ht.first_iff, ht.blk_length, ht.n_pos, ht.k_le,
    ht.not_waiting, fun hc => (ht.cmd hc).1, fun hr => ?rdErr, ht.reset, h.history_sized⟩
  case rdErr =>
    cases hph : s.phase with
    | idle => exact absurd hph hp
    | cmd => exact (ht.cmd hph).2
    | page => exact (ht.page hph).2
    | reset => exact absurd hph hr

theorem inv_of_runInv {s : State} (h : RunInv s) (hk : s.phase = .page → s.k < s.n) : s.Inv where
  txLen_le := h.txLen_le
  rxBuf_length := h.rxBuf_length
  transaction := fun _ =>
    { pfx_length := h.pfx_length, first_iff := h.first_iff, blk_length := h.blk_length, n_pos := h.n_pos
      k_le := h.k_le, not_waiting := h.not_waiting
      cmd := fun hp => ⟨h.cmd hp, h.rdErr (by simp [hp])⟩
      page := fun hp => ⟨hk hp, h.rdErr (by simp [hp])⟩
      reset := h.reset }
  idle_rdErr := fun hp => absurd hp h.busy
  idle_blk := fun hp => absurd hp h.busy
  history_sized := h.history_sized

theorem sized_of_mem_append {l : List Event} {e : Event} (hl : ∀ x ∈ l, x.sized) (he : e.sized) :
    ∀ x ∈ l ++ [e], x.sized := by
  intro x hx
  obtain hx | hx := List.mem_append.mp hx
  · exact hl x hx
  · rwa [List.mem_singleton.mp hx]

theorem readFrame_length {s : State} (h : s.pfx.length = 3) : (readFrame Config.params s).length = 11 := by
  simp [readFrame, h]

theorem frameData_length {f : Bytes} (h : f.length = 34) : (frameData f).length = 32 := by
  simp [frameData, h]

theorem runInv_of_advance {s s' : State} (ha : Advance s s') (h : RunInv s) : RunInv s' := by
  cases ha with
  | command hp hw =>
    have hsized : (Event.w (readFrame Config.params s) .ok).sized := by
      simp [Event.sized, readFrame_length h.pfx_length]
    exact { h with
      busy := by simp
      cmd := by simp
      rdErr := fun _ => h.rdErr (by simp [hp])
      reset := by simp
      history_sized := sized_of_mem_append h.history_sized hsized }
  | @commandFails e rest hp hw =>
    have hsized : (Event.w (readFrame Config.params s) (.err e)).sized := by
      simp [Event.sized, readFrame_length h.pfx_length]
    exact { h with
      busy := by simp
      cmd := by simp
      rdErr := by simp
      reset := by simp
      history_sized := sized_of_mem_append h.history_sized hsized }
  | @page f rest hp hk hl hr hc =>
    have hsized : (Event.r 34 (.ok f)).sized := ⟨.inl rfl, hl⟩
    exact { h with
      rxBuf_length := setRxBuf_length_le (by omega) h.rxBuf_length
      first_iff := by simp
      blk_length := by simp [h.blk_length, frameData_length hl, Nat.mul_add]
      k_le := hk
      cmd := by simp [hp]
      reset := by simp [hp]
      history_sized := sized_of_mem_append h.history_sized hsized }
  | @badPage f rest hp hk hl hr hc =>
    have hsized : (Event.r 34 (.ok f)).sized := ⟨.inl rfl, hl⟩
    exact { h with
      busy := by simp
      rxBuf_length := setRxBuf_length_le (by omega) h.rxBuf_length
      cmd := by simp
      rdErr := by simp
      reset := by simp
      history_sized := sized_of_mem_append h.history_sized hsized }
  | @pageFails part e rest hp hk hl hr =>
    have hsized : (Event.r 34 (.err e)).sized := .inl rfl
    exact { h with
      busy := by simp
      cmd := by simp
      rdErr := by simp
      reset := by simp
      history_sized := sized_of_mem_append h.history_sized hsized }
  | pagesDone hp hk =>
    exact { h with
      busy := by simp
      cmd := by simp
      rdErr := by simp
      reset := fun _ _ => h.k_le.antisymm hk }

theorem inv_of_stops {u t : State} (ht : Stops u t) (h : RunInv u) : t.Inv := by
  cases ht with
  | blocked hb =>
    refine inv_of_runInv h fun hp => ?_
    cases hb with
    | write hp' => obtain hp' | hp' := hp' <;> simp [hp] at hp'
    | read hp' hk => exact hk
  | @ended rr rest hp hw =>
    obtain ⟨r, blk, hfin, hblk⟩ := finishRead_deliver rr (u.wrote [] rr rest)
    rw [hfin]
    exact
      { txLen_le := h.txLen_le
        rxBuf_length := h.rxBuf_length
        transaction := fun hne => absurd rfl hne
        idle_rdErr := fun _ => rfl
        idle_blk := fun _ => hblk.symm.imp id fun hb => (congrArg List.length hb).trans h.blk_length
        history_sized := sized_of_mem_append h.history_sized (by simp [Event.sized]) }

theorem inv_of_run {s : State} (h : RunInv s) : (continueRead s).Inv := by
  obtain ⟨u, hu, ht⟩ := continueRead_run h.busy
  refine inv_of_stops ht ?_
  clear ht
  induction hu with
  | refl => exact h
  | tail _ hstep ih => exact runInv_of_advance hstep ih

end Sys2Proof.Machine
end

section
/-! PROOFS. What an operation and a step can do, said once, and the statements about every step (10_state.md, 60_exceptions.md, 70_reset_and_hazards.md). -/

namespace Sys2Proof

/-- The operations, other than READMEM, that write `CRC` (10_state.md section 1). -/
def Instr.setsCrc : Instr → Bool
  | .crcClr | .crcUpd _ | .checksum _ | .decPage _ _ _ => true
  | _ => false

/-- The operations that write the staging buffer (10_state.md section 1). -/
def Instr.stages : Instr → Bool
  | .encWrsp _ _ | .encCpysp _ | .encRdsp | .encRdmem _ | .encClrmem | .encStop | .encStart => true
  | _ => false

/-- The operations that make one channel call (20_memory.md R25). -/
def Instr.callsOnce : Instr → Bool
  | .send | .recvsp | .busreset => true
  | _ => false

end Sys2Proof

namespace Sys2Proof.Machine

/-! READMEM, by whether its page count is allowed. -/

theorem exec_readmem_of_allowed {n : Nat} (h : pagesAllowed Config.params n = true) (addr : Word) (s : State) :
    exec (.readmem addr n) s = .next (continueRead (latchRead Config.params addr n s)) :=
  congrArg _ (if_pos h)

theorem readMem_of_not_allowed {p : Params} {n : Nat} (h : ¬ pagesAllowed p n = true) (addr : Word) (s : State) :
    readMem p addr n s = refuse s := if_neg h

theorem exec_readmem_of_not_allowed {n : Nat} (h : ¬ pagesAllowed Config.params n = true) (addr : Word)
    (s : State) : exec (.readmem addr n) s = .next (refuse s) :=
  congrArg _ (readMem_of_not_allowed h addr s)

theorem pagesAllowed_iff {p : Params} {n : Nat} :
    pagesAllowed p n = true ↔ 0 < n ∧ ∀ m, p.maxPages = some m → n ≤ m.val := by
  rw [pagesAllowed, Bool.and_eq_true, decide_eq_true_iff]
  cases p.maxPages <;> simp

/-- What an operation leaves, from its start as far as the channel has answered. -/
inductive Effect : Instr → State → State → Prop where
  | answer {i s} (r : Result) : Effect i s (deliver r s)
  | crc {i s} (hi : i.setsCrc = true) (r : Result) (c : Word) : Effect i s (deliver r (s.setCrc c))
  | staged {i s} (hi : i.stages = true) (r : Result) {frame : Bytes} (hf : frame.length ≤ 35) :
      Effect i s (deliver r (s.setTxBuf frame))
  | waits {i s} (hi : i.callsOnce = true) (w : Waiting) : Effect i s (s.setWaiting (some w))
  | wrote {i s} (hi : i.callsOnce = true) (r : Result) {bs : Bytes} {a : WriteAnswer} {rest : List WriteAnswer}
      (hb : bs = s.txBuf ∨ bs = []) (hw : s.wrIn = a :: rest) : Effect i s (deliver r (s.wrote bs a rest))
  | received {s} (r : Result) {bs : Bytes} {rest : List RxItem} (hl : bs.length = 35)
      (hr : s.rdIn = bs.map .byte ++ rest) :
      Effect .recvsp s (deliver r ((s.read 35 (.ok bs) rest).setRxBuf bs))
  | readFailed {s} (r : Result) {part : Bytes} {e : IOError} {rest : List RxItem}
      (hr : s.rdIn = part.map .byte ++ .fail e :: rest) :
      Effect .recvsp s (deliver r (s.read 35 (.err e) rest))
  | transaction {s} (addr : Word) {n : Nat} (hn : 0 < n) :
      Effect (.readmem addr n) s (continueRead (latchRead Config.params addr n s))

theorem effect_writeAndReport {i : Instr} (hi : i.callsOnce = true) (w : Waiting) {bs : Bytes} {s : State}
    (hb : bs = s.txBuf ∨ bs = []) : Effect i s (writeAndReport w bs s) := by
  obtain ⟨-, h⟩ | ⟨rest, hw, h⟩ | ⟨e, rest, hw, h⟩ := writeAndReport_cases w bs s
  · exact h ▸ .waits hi w
  · exact h ▸ .wrote hi _ hb hw
  · exact h ▸ .wrote hi _ hb hw

theorem effect_stageRdSp (p : Params) (s : State) : Effect .encRdsp s (stageRdSp p s) := by
  cases h : encRdSp p with
  | none => exact stageRdSp_of_none h s ▸ .answer _
  | some frame => exact stageRdSp_of_some h s ▸ .staged rfl _ (encRdSp_length h).2

theorem effect_checkPage (first : Bool) (pfx f : Bytes) (s : State) :
    Effect (.decPage first pfx f) s (checkPage first pfx f s) := by
  by_cases hv : ~~~(frameRx f) = frameChecksum first pfx f
  · rw [checkPage_of_valid hv, ← deliver_ok]
    exact .crc rfl _ _
  · exact checkPage_of_invalid hv s ▸ .crc rfl _ _

/-- RECVSP waits while its 35 bytes are not there. -/
theorem execRecvsp_of_none {s : State} (h : chRead 35 s = none) :
    execRecvsp s = .next (s.setWaiting (some .recvSp)) := by
  rw [execRecvsp, spRespBytes_eq, h]

/-- Every operation answers a next state, and this is what that state can be. -/
theorem exec_effect (i : Instr) (s : State) : ∃ t, exec i s = .next t ∧ Effect i s t := by
  cases i with
  | crcClr => exact ⟨_, exec_crcClr s, .crc rfl _ _⟩
  | crcUpd b => exact ⟨_, exec_crcUpd b s, .crc rfl _ _⟩
  | crcRd => exact ⟨_, exec_crcRd s, .answer _⟩
  | checksum bs => exact ⟨_, exec_checksum bs s, .crc rfl _ _⟩
  | encWrsp addr data =>
    by_cases h : data.length = 32
    · exact ⟨_, exec_encWrsp_of_length h addr s, .staged rfl _ (by simp [h])⟩
    · exact ⟨_, exec_encWrsp_of_length_ne h addr s, .answer _⟩
  | encCpysp addr => exact ⟨_, exec_encCpysp addr s, .staged rfl _ (by simp)⟩
  | encRdsp => exact ⟨_, exec_encRdsp s, effect_stageRdSp _ s⟩
  | encRdmem addr => exact ⟨_, exec_encRdmem addr s, .staged rfl _ (by simp)⟩
  | encClrmem => exact ⟨_, exec_encClrmem s, .staged rfl _ (by simp)⟩
  | encStop => exact ⟨_, exec_encStop s, .staged rfl _ (by simp)⟩
  | encStart => exact ⟨_, exec_encStart s, .staged rfl _ (by simp)⟩
  | send =>
    by_cases h : s.txBuf = []
    · exact ⟨_, exec_send_of_nil h, .answer _⟩
    · exact ⟨_, exec_send_of_ne_nil h, effect_writeAndReport rfl _ (.inl rfl)⟩
  | decPage first pfx f =>
    by_cases h : pfx.length = 3 ∧ f.length = 34
    · exact ⟨_, exec_decPage_of_length h.1 h.2 first s, effect_checkPage first pfx f s⟩
    · exact ⟨_, exec_decPage_of_length_ne (not_and_or.mp h) first s, .answer _⟩
  | decSp f =>
    by_cases h : f.length = 35
    · exact ⟨_, exec_decSp_of_length h s, .answer _⟩
    · exact ⟨_, exec_decSp_of_length_ne h s, .answer _⟩
  | recvsp =>
    obtain ⟨bs, rest, hl, hr, h⟩ | ⟨part, e, rest, -, hr, h⟩ | ⟨part, -, -, h⟩ := chRead_cases 35 s
    · exact ⟨_, execRecvsp_of_ok h, .received (.ok (.bytes bs)) hl hr⟩
    · exact ⟨_, execRecvsp_of_err h, .readFailed _ hr⟩
    · exact ⟨_, execRecvsp_of_none h, .waits rfl _⟩
  | readmem addr n =>
    by_cases h : pagesAllowed Config.params n = true
    · exact ⟨_, exec_readmem_of_allowed h addr s, .transaction addr (pagesAllowed_iff.mp h).1⟩
    · exact ⟨_, exec_readmem_of_not_allowed h addr s, .answer _⟩
  | busreset => exact ⟨_, exec_busreset s, effect_writeAndReport rfl _ (.inr rfl)⟩

theorem effect_of_exec {i : Instr} {s t : State} (h : exec i s = .next t) : Effect i s t := by
  obtain ⟨t', h', ht'⟩ := exec_effect i s
  cases h.symm.trans h'
  exact ht'

/-! The step by the state it finds. -/

/-- The operation that is blocked. -/
def Waiting.instr : Waiting → Instr
  | .send => .send
  | .recvSp => .recvsp
  | .busReset => .busreset

theorem step_of_waiting {s : State} {w : Waiting} (hp : s.phase = .idle) (hw : s.waiting = some w) :
    step s = exec w.instr (s.setWaiting none) := by
  rw [step, stepBlock, hp, hw]
  cases w <;> rfl

theorem step_of_ready {s : State} (h : s.ready) : step s = takeInput s := by
  rw [step, stepBlock, h.1, h.2]

theorem step_of_no_input {s : State} (h : s.ready) (hin : s.hostIn = []) : step s = .next s := by
  rw [step_of_ready h, takeInput, hin]

theorem step_of_reset_input {s : State} {rest : List HostInput} (h : s.ready) (hin : s.hostIn = .reset :: rest) :
    step s = .next (blockReset (s.setHostIn rest)) := by
  rw [step_of_ready h, takeInput, hin]

theorem step_of_decoded {s : State} {cmd : Bytes} {rest : List HostInput} {i : Instr} (h : s.ready)
    (hin : s.hostIn = .command cmd :: rest) (hd : decode cmd = .ok i) : step s = exec i (s.setHostIn rest) := by
  rw [step_of_ready h, takeInput, hin]
  simp only [runCommand, hd]

theorem step_of_rejected {s : State} {cmd : Bytes} {rest : List HostInput} {r : Reject} (h : s.ready)
    (hin : s.hostIn = .command cmd :: rest) (hd : decode cmd = .error r) :
    step s = .next (refuse (s.setHostIn rest)) := by
  rw [step_of_ready h, takeInput, hin]
  simp only [runCommand, hd]

/-- What a step leaves. -/
inductive StepTo (s : State) : State → Prop where
  | busy (hp : s.phase ≠ .idle) : StepTo s (continueRead s)
  | resumed {w : Waiting} {t : State} (hp : s.phase = .idle) (hw : s.waiting = some w)
      (he : Effect w.instr (s.setWaiting none) t) : StepTo s t
  | noInput (h : s.ready) (hin : s.hostIn = []) : StepTo s s
  | reset {rest : List HostInput} (h : s.ready) (hin : s.hostIn = .reset :: rest) :
      StepTo s (blockReset (s.setHostIn rest))
  | ran {cmd : Bytes} {rest : List HostInput} {i : Instr} {t : State} (h : s.ready)
      (hin : s.hostIn = .command cmd :: rest) (hd : decode cmd = .ok i) (he : Effect i (s.setHostIn rest) t) :
      StepTo s t
  | refused {cmd : Bytes} {rest : List HostInput} {r : Reject} (h : s.ready)
      (hin : s.hostIn = .command cmd :: rest) (hd : decode cmd = .error r) :
      StepTo s (refuse (s.setHostIn rest))

/-- Every step answers a next state, and this is what that state can be. -/
theorem step_stepTo (s : State) : ∃ t, step s = .next t ∧ StepTo s t := by
  by_cases hp : s.phase = .idle
  · match hw : s.waiting with
    | some w =>
      obtain ⟨t, ht, he⟩ := exec_effect w.instr (s.setWaiting none)
      exact ⟨t, (step_of_waiting hp hw).trans ht, .resumed hp hw he⟩
    | none =>
      match hin : s.hostIn with
      | [] => exact ⟨s, step_of_no_input ⟨hp, hw⟩ hin, .noInput ⟨hp, hw⟩ hin⟩
      | .reset :: rest => exact ⟨_, step_of_reset_input ⟨hp, hw⟩ hin, .reset ⟨hp, hw⟩ hin⟩
      | .command cmd :: rest =>
        cases hd : decode cmd with
        | ok i =>
          obtain ⟨t, ht, he⟩ := exec_effect i (s.setHostIn rest)
          exact ⟨t, (step_of_decoded ⟨hp, hw⟩ hin hd).trans ht, .ran ⟨hp, hw⟩ hin hd he⟩
        | error r => exact ⟨_, step_of_rejected ⟨hp, hw⟩ hin hd, .refused ⟨hp, hw⟩ hin hd⟩
  · exact ⟨_, step_of_busy hp, .busy hp⟩

theorem stepTo_of_step {s t : State} (h : step s = .next t) : StepTo s t := by
  obtain ⟨t', h', ht'⟩ := step_stepTo s
  cases h.symm.trans h'
  exact ht'

/-- Settles O37. -/
theorem stepAlwaysAnswersNext : Obligations.StepAlwaysAnswersNext := by
  intro s
  obtain ⟨t, h, -⟩ := step_stepTo s
  exact ⟨t, h⟩

/-- Settles O41. -/
theorem stepRunsDecodedCommand : Obligations.StepRunsDecodedCommand := by
  intro s cmd rest i h hin hd
  rw [step_of_decoded h hin hd, State.setHostIn]

/-- Settles O42. -/
theorem idleBlockWaitsForHost : Obligations.IdleBlockWaitsForHost := fun _ => step_of_no_input

/-- Settles O44: the reset of the block keeps what is not the block's. -/
theorem resetInputClearsBlock : Obligations.ResetInputClearsBlock := by
  intro s rest h hin
  refine ⟨_, step_of_reset_input h hin, ?_⟩
  simp [blockReset, State.reset, State.ready]

/-- Settles O45, field by field. -/
theorem resetStateOfTheSpec : Obligations.ResetStateOfTheSpec := by
  simp [Obligations.ResetStateOfTheSpec, State.reset, State.ready]

/-! The invariant (10_state.md R14, R15, R17, R18). -/

/-- Settles O51. -/
theorem resetSatisfiesInvariant : Obligations.ResetSatisfiesInvariant := by
  constructor <;> simp [State.reset]

theorem inv_of_outside {s t : State} (h : s.Inv) (hp : s.phase = .idle) (hph : t.phase = s.phase)
    (hrd : t.rdErr = s.rdErr) (hblk : t.blk = s.blk) (hk : t.k = s.k) (htx : t.txBuf.length ≤ 35)
    (hrx : t.rxBuf.length ≤ 35) (hh : ∀ e ∈ t.history, e.sized) : t.Inv where
  txLen_le := htx
  rxBuf_length := hrx
  transaction := fun hne => absurd (hph.trans hp) hne
  idle_rdErr := fun _ => hrd.trans (h.idle_rdErr hp)
  idle_blk := fun _ => by rw [hblk, hk]; exact h.idle_blk hp
  history_sized := hh

theorem runInv_latchRead {s : State} (h : s.Inv) (hw : s.waiting = none) (addr : Word) {n : Nat} (hn : 0 < n) :
    RunInv (latchRead Config.params addr n s) where
  busy := by simp
  txLen_le := h.txLen_le
  rxBuf_length := h.rxBuf_length
  pfx_length := by simp
  first_iff := by simp
  blk_length := rfl
  n_pos := hn
  k_le := n.zero_le
  not_waiting := hw
  cmd := fun _ => rfl
  rdErr := fun _ => rfl
  reset := by simp
  history_sized := h.history_sized

theorem inv_of_effect {i : Instr} {s t : State} (he : Effect i s t) (h : s.Inv) (hp : s.phase = .idle)
    (hw : s.waiting = none) : t.Inv := by
  have htx := h.txLen_le
  have hrx := h.rxBuf_length
  have hh := h.history_sized
  cases he with
  | answer | crc | waits => exact inv_of_outside h hp rfl rfl rfl rfl htx hrx hh
  | staged hi r hf => exact inv_of_outside h hp rfl rfl rfl rfl hf hrx hh
  | wrote hi r hb =>
    refine inv_of_outside h hp rfl rfl rfl rfl htx hrx (sized_of_mem_append hh ?_)
    obtain rfl | rfl := hb
    · exact htx
    · simp [Event.sized]
  | received r hl hr =>
    exact inv_of_outside h hp rfl rfl rfl rfl htx (setRxBuf_length_le (by omega) hrx)
      (sized_of_mem_append hh ⟨.inr rfl, hl⟩)
  | readFailed r hr => exact inv_of_outside h hp rfl rfl rfl rfl htx hrx (sized_of_mem_append hh (.inr rfl))
  | transaction addr hn => exact inv_of_run (runInv_latchRead h hw addr hn)

/-- Settles O50, by what the step does: in a transaction by the invariant of its runs, else by the effect of
the operation, which finds the block idle. -/
theorem stepKeepsInvariant : Obligations.StepKeepsInvariant := by
  intro s t h hst
  cases stepTo_of_step hst with
  | busy hp => exact inv_of_run (runInv_of_inv h hp)
  | resumed hp hw he =>
    have h' : (s.setWaiting none).Inv :=
      inv_of_outside h hp rfl rfl rfl rfl h.txLen_le h.rxBuf_length h.history_sized
    exact inv_of_effect he h' hp rfl
  | noInput => exact h
  | reset hr hin =>
    exact inv_of_outside resetSatisfiesInvariant rfl rfl rfl rfl rfl (Nat.zero_le _) (Nat.zero_le _)
      h.history_sized
  | @ran cmd rest i t hr hin hd he =>
    have h' : (s.setHostIn rest).Inv :=
      inv_of_outside h hr.1 rfl rfl rfl rfl h.txLen_le h.rxBuf_length h.history_sized
    exact inv_of_effect he h' hr.1 hr.2
  | refused hr hin hd =>
    exact inv_of_outside h hr.1 rfl rfl rfl rfl h.txLen_le h.rxBuf_length h.history_sized

/-! Results, and the elements a step leaves (R16, R107, R122). -/

theorem reports_of_effect {i : Instr} {s t : State} (he : Effect i s t) (hp : s.phase = .idle) : Reports s t := by
  cases he with
  | answer r => exact .result r rfl rfl hp rfl
  | crc hi r c => exact .result r rfl rfl hp rfl
  | staged hi r hf => exact .result r rfl rfl hp rfl
  | waits => exact .nothing rfl rfl
  | wrote hi r hb hw => exact .result r rfl rfl hp rfl
  | received r hl hr => exact .result r rfl rfl hp rfl
  | readFailed r hr => exact .result r rfl rfl hp rfl
  | @transaction _ addr n hn =>
    have h := reports_continueRead (s := latchRead Config.params addr n s) (by simp)
    obtain ⟨hout, hst⟩ | ⟨r, hout, hst, hph, hw⟩ := h
    · exact .nothing hout hst
    · exact .result r hout hst hph hw

theorem hostIn_of_effect {i : Instr} {s t : State} (he : Effect i s t) : t.hostIn = s.hostIn := by
  cases he with
  | transaction addr hn => exact (keeps_continueRead (by simp)).hostIn
  | answer | crc | staged | waits | wrote | received | readFailed => rfl

theorem consumes_of_effect {i : Instr} {s t : State} (he : Effect i s t) : Consumes s t := by
  cases he with
  | answer | crc | staged | waits => exact .of_eq rfl rfl rfl
  | wrote hi r hb hw => exact .of_write rfl hw rfl
  | received r hl hr => exact .of_read rfl rfl hr
  | readFailed r hr => exact .of_failed_read rfl rfl hr
  | transaction addr hn => exact consumes_continueRead (by simp)

theorem ready_of_reports {s t : State} (h : Reports s t) (hw : s.waiting = none)
    (hne : t.hostOut ≠ s.hostOut) : t.ready := by
  obtain ⟨hout, -⟩ | ⟨r, -, -, hph, hwt⟩ := h
  · exact absurd hout hne
  · exact ⟨hph, hwt.trans hw⟩

/-- The register form of a result, by the result (R16, R100). -/
theorem status_of_reports {s t : State} (h : Reports s t) :
    (t.hostOut = s.hostOut ∧ t.status = s.status) ∨
    (∃ v, t.hostOut = s.hostOut ++ [.ok v] ∧ t.status = Status.clear) ∨
    (∃ e : OpError, t.hostOut = s.hostOut ++ [.err e] ∧ t.status.err = errCode e.kind ∧
      t.status.rstErr = e.resetFailed.getD false ∧ t.status.errPage = e.page.getD 0) := by
  obtain ⟨hout, hst⟩ | ⟨r, hout, hst, -⟩ := h
  · exact .inl ⟨hout, hst⟩
  · rw [hst]
    match r with
    | .ok v => exact .inr (.inl ⟨v, hout, rfl⟩)
    | .err e => exact .inr (.inr ⟨e, hout, rfl, rfl, rfl⟩)

/-- A step that does not take the reset input answers as `Reports` says, from a state with the same result
port and `STATUS`. -/
theorem reports_of_stepTo {s t : State} (h : StepTo s t) :
    (s.ready ∧ s.hostIn = .reset :: t.hostIn ∧ t.hostOut = s.hostOut ∧ t.status = Status.clear) ∨
    ∃ s' : State, s'.hostOut = s.hostOut ∧ s'.status = s.status ∧ Reports s' t ∧ (s.Inv → s'.waiting = none) := by
  cases h with
  | busy hp => exact .inr ⟨s, rfl, rfl, reports_continueRead hp, fun h => (h.transaction hp).not_waiting⟩
  | resumed hp hw he => exact .inr ⟨s.setWaiting none, rfl, rfl, reports_of_effect he hp, fun _ => rfl⟩
  | noInput h hin => exact .inr ⟨s, rfl, rfl, .nothing rfl rfl, fun _ => h.2⟩
  | reset h hin => exact .inl ⟨h, hin, rfl, rfl⟩
  | @ran cmd rest i t h hin hd he =>
    exact .inr ⟨s.setHostIn rest, rfl, rfl, reports_of_effect he h.1, fun _ => h.2⟩
  | @refused cmd rest r h hin hd =>
    exact .inr ⟨s.setHostIn rest, rfl, rfl, .result _ rfl rfl h.1 rfl, fun _ => h.2⟩

/-- Settles O35. -/
theorem statusMirrorsLastResult : Obligations.StatusMirrorsLastResult := by
  intro s t hst
  obtain ⟨hr, hin, hout, hclear⟩ | ⟨s', hout, hstatus, h, -⟩ := reports_of_stepTo (stepTo_of_step hst)
  · exact .inl ⟨hout, .inr ⟨hr, hin, hclear⟩⟩
  · have hs := status_of_reports h
    rw [hout, hstatus] at hs
    obtain ⟨hout, hst⟩ | hok | ⟨e, hout, herr, hrest⟩ := hs
    · exact .inl ⟨hout, .inl hst⟩
    · exact .inr (.inl hok)
    · refine .inr (.inr ⟨e, hout, herr.trans ?_, hrest⟩)
      cases e.kind <;> rfl

/-- Settles O36. -/
theorem resultLeavesBlockReady : Obligations.ResultLeavesBlockReady := by
  intro s t hinv hst hne
  obtain ⟨-, -, hout, -⟩ | ⟨s', hout, -, h, hw⟩ := reports_of_stepTo (stepTo_of_step hst)
  · exact absurd hout hne
  · exact ready_of_reports h (hw hinv) (hout ▸ hne)

/-- Settles O43: a busy block goes on with its operation, which leaves the command port. -/
theorem busyBlockTakesNoCommand : Obligations.BusyBlockTakesNoCommand := by
  intro s t hbusy hst
  cases stepTo_of_step hst with
  | busy hp => exact (keeps_continueRead hp).hostIn
  | resumed hp hw he => exact (hostIn_of_effect he :)
  | noInput h | reset h | ran h | refused h => exact absurd h hbusy

/-- Settles O47. -/
theorem channelIsConsumedInOrder : Obligations.ChannelIsConsumedInOrder := by
  intro s t hst
  cases stepTo_of_step hst with
  | busy hp => exact consumes_continueRead hp
  | resumed hp hw he => exact (consumes_of_effect he :)
  | noInput => exact Consumes.refl s
  | reset | refused => exact Consumes.of_eq rfl rfl rfl
  | ran h hin hd he => exact (consumes_of_effect he :)

/-- Settles O49: the phase's rank and `K` do not decrease in a run. -/
theorem phasesOnlyMoveForward : Obligations.PhasesOnlyMoveForward := by
  intro s t hst
  by_cases hp : s.phase = .idle
  · simp [hp]
  · cases (step_of_busy hp).symm.trans hst
    have h := keeps_continueRead hp
    have hrank := h.rank_le
    refine ⟨fun hpage hcmd => ?_, fun hreset => ?_, fun _ => ⟨h.n, h.pfx, h.k_le⟩⟩
    · simp [hpage, hcmd, Phase.rank] at hrank
    · cases hph : (continueRead s).phase <;> simp [hreset, hph, Phase.rank] at hrank ⊢

/-! The frame of each operation (10_state.md section 1). -/

section Frame

variable {i : Instr} {s t : State} (he : Effect i s t)
include he

theorem crc_of_effect (hi : i.setsCrc = false) (hr : ∀ addr n, i ≠ .readmem addr n) : t.crc = s.crc := by
  cases he with
  | crc h => simp [hi] at h
  | transaction addr => exact absurd rfl (hr addr _)
  | answer | staged | waits | wrote | received | readFailed => rfl

theorem txBuf_of_effect (hi : i.stages = false) : t.txBuf = s.txBuf := by
  cases he with
  | staged h => simp [hi] at h
  | transaction => exact (keeps_continueRead (by simp)).txBuf
  | answer | crc | waits | wrote | received | readFailed => rfl

theorem rxBuf_of_effect (hi : i ≠ .recvsp) (hr : ∀ addr n, i ≠ .readmem addr n) : t.rxBuf = s.rxBuf := by
  cases he with
  | received => exact absurd rfl hi
  | transaction addr => exact absurd rfl (hr addr _)
  | answer | crc | staged | waits | wrote | readFailed => rfl

theorem transaction_of_effect (hr : ∀ addr n, i ≠ .readmem addr n) :
    t.pfx = s.pfx ∧ t.first = s.first ∧ t.k = s.k ∧ t.n = s.n ∧ t.blk = s.blk ∧ t.phase = s.phase ∧
      t.rdErr = s.rdErr := by
  cases he with
  | transaction addr => exact absurd rfl (hr addr _)
  | answer | crc | staged | waits | wrote | received | readFailed => exact ⟨rfl, rfl, rfl, rfl, rfl, rfl, rfl⟩

theorem channel_of_effect (hi : i.callsOnce = false) (hr : ∀ addr n, i ≠ .readmem addr n) :
    t.history = s.history ∧ t.wrIn = s.wrIn ∧ t.rdIn = s.rdIn ∧ t.waiting = s.waiting := by
  cases he with
  | waits h | wrote h => simp [hi] at h
  | received | readFailed => cases hi
  | transaction addr => exact absurd rfl (hr addr _)
  | answer | crc | staged => exact ⟨rfl, rfl, rfl, rfl⟩

theorem hostOut_of_effect : s.hostOut <+: t.hostOut := by
  cases he with
  | @transaction _ addr n hn =>
    have h := reports_continueRead (s := latchRead Config.params addr n s) (by simp)
    obtain ⟨hout, -⟩ | ⟨r, hout, -⟩ := h
    · exact hout ▸ List.prefix_rfl
    · exact hout ▸ List.prefix_append _ _
  | waits => exact List.prefix_rfl
  | answer | crc | staged | wrote | received | readFailed => exact List.prefix_append _ _

theorem history_of_effect : s.history <+: t.history := by
  obtain ⟨evs, -, hh, -⟩ := consumes_of_effect he
  exact hh ▸ List.prefix_append _ _

end Frame

/-- Settles O46: each element is left as it was by the operations outside its row of the table. -/
theorem onlyListedWritersWrite : Obligations.OnlyListedWritersWrite := by
  intro i s t hex
  have he := effect_of_exec hex
  refine ⟨fun hne => ?crc, fun hne => ?txBuf, fun hne => ?rxBuf, fun hne => ?transaction, fun hne => ?channel,
    hostIn_of_effect he, hostOut_of_effect he, history_of_effect he⟩
  case crc =>
    cases i with
    | crcClr | crcUpd | checksum | decPage | readmem => trivial
    | crcRd | encWrsp | encCpysp | encRdsp | encRdmem | encClrmem | encStop | encStart | send | decSp | recvsp
      | busreset => exact hne (crc_of_effect he rfl (by simp))
  case txBuf =>
    cases i with
    | encWrsp | encCpysp | encRdsp | encRdmem | encClrmem | encStop | encStart => trivial
    | crcClr | crcUpd | crcRd | checksum | send | decPage | decSp | recvsp | readmem | busreset =>
      exact hne (txBuf_of_effect he rfl)
  case rxBuf =>
    by_contra hi
    simp only [not_or, not_exists] at hi
    exact hne (rxBuf_of_effect he hi.2 hi.1)
  case transaction =>
    by_contra hi
    simp only [not_exists] at hi
    simp [transaction_of_effect he hi] at hne
  case channel =>
    by_contra hi
    simp only [not_or, not_exists] at hi
    obtain ⟨hsend, hrecv, hreset, hread⟩ := hi
    have hcalls : i.callsOnce = false := by cases i <;> simp_all [Instr.callsOnce]
    simp [channel_of_effect he hcalls hread] at hne

end Sys2Proof.Machine
end

section
/-! PROOFS. Refusals, waits and late answers (60_exceptions.md R103, 70_reset_and_hazards.md R124), and what results depend on (10_state.md R20). -/

namespace Sys2Proof.Machine

open Relation (ReflTransGen)

/-- Settles O34: each refusal is `refuse`, which is the state R103 describes. -/
theorem refusalChangesOnlyStatus : Obligations.RefusalChangesOnlyStatus := by
  refine ⟨fun s cmd rest r hr hin hd => ?rejected, fun addr data s h => ?encWrsp, fun first pfx f s h => ?decPage,
    fun f s h => ?decSp, fun s h => ?send, fun addr s => ?noPage, fun p addr n s hm => ?tooMany,
    fun addr n s => rfl, fun p s h => ?noCommand, exec_encRdsp, fun p n => pagesAllowed_iff⟩
  case rejected => rw [step_of_rejected hr hin hd, refuse_eq_afterRefusal, State.setHostIn]
  case encWrsp => rw [exec_encWrsp_of_length_ne h, refuse_eq_afterRefusal]
  case decPage => rw [exec_decPage_of_length_ne (not_and_or.mp h), refuse_eq_afterRefusal]
  case decSp => rw [exec_decSp_of_length_ne h, refuse_eq_afterRefusal]
  case send => rw [exec_send_of_nil (List.length_eq_zero_iff.mp h), refuse_eq_afterRefusal]
  case noPage => rw [exec_readmem_of_not_allowed (by simp [pagesAllowed]), refuse_eq_afterRefusal]
  case tooMany =>
    obtain ⟨m, hmax, hlt⟩ := hm
    have hn : ¬ pagesAllowed p n = true := fun h => absurd ((pagesAllowed_iff.mp h).2 m hmax) (by omega)
    rw [readMem_of_not_allowed hn, refuse_eq_afterRefusal]
  case noCommand =>
    rw [stageRdSp_of_none (by rw [encRdSp, h, Option.map_none]), refuse_eq_afterRefusal]

/-! Operations that wait. -/

theorem writeAndReport_of_nil {w : Waiting} {bs : Bytes} {s : State} (h : s.wrIn = []) :
    writeAndReport w bs s = s.setWaiting (some w) := by
  simp only [writeAndReport, chWrite_eq_none.mpr h]

/-- Settles O38. -/
theorem unansweredCallBlocksOperation : Obligations.UnansweredCallBlocksOperation := by
  refine ⟨fun s hne hw => ?send, fun s part hl hr => ?recvsp, fun s hw => ?busreset, fun addr n s hn hw => ?readmem⟩
  case send => rw [exec_send_of_ne_nil hne, writeAndReport_of_nil hw, State.setWaiting]
  case recvsp => rw [exec_recvsp, execRecvsp_of_none (chRead_short hl hr), State.setWaiting]
  case busreset => rw [exec_busreset, writeAndReport_of_nil hw, State.setWaiting]
  case readmem =>
    have hstop : Stops (latchRead Config.params addr n s) (latchRead Config.params addr n s) :=
      .blocked (.write (.inl rfl) hw)
    refine ⟨_, exec_readmem_of_allowed hn addr s, ?_⟩
    rw [continueRead_of_stops hstop]
    exact ⟨rfl, rfl, rfl, rfl, rfl, rfl, rfl⟩

theorem setWaiting_of_eq {s : State} {w : Option Waiting} (h : s.waiting = w) : s.setWaiting w = s := by
  rw [State.setWaiting, ← h]

/-- A blocked operation whose one call still waits is left as it is. -/
theorem step_of_still_waiting {s : State} {w : Waiting} (hp : s.phase = .idle) (hw : s.waiting = some w)
    (h : exec w.instr (s.setWaiting none) = .next ((s.setWaiting none).setWaiting (some w))) :
    step s = .next s := by
  rw [step_of_waiting hp hw, h]
  exact congrArg _ (setWaiting_of_eq hw)

/-- Settles O39. -/
theorem withheldAnswerIsAWait : Obligations.WithheldAnswerIsAWait := by
  have hread : ∀ s : State, s.phase ≠ .idle → Blocked s → step s = .next s := fun s hp hb => by
    rw [step_of_busy hp, continueRead_of_stops (.blocked hb)]
  refine ⟨fun s hp hw => hread s (by simp [hp]) (.write (.inl hp) hw),
    fun s hp hw => hread s (by simp [hp]) (.write (.inr hp) hw),
    fun s part hp hk hl hr => hread s (by simp [hp]) (.read hp hk hl hr),
    fun s hp hwt hne hw => step_of_still_waiting hp hwt ?send,
    fun s part hp hwt hl hr => step_of_still_waiting hp hwt ?recvsp,
    fun s hp hwt hw => step_of_still_waiting hp hwt ?busreset⟩
  case send => exact (exec_send_of_ne_nil (s := s.setWaiting none) hne).trans (congrArg _ (writeAndReport_of_nil hw))
  case recvsp => exact execRecvsp_of_none (chRead_short hl hr)
  case busreset => exact congrArg Host.Outcome.next (writeAndReport_of_nil (s := s.setWaiting none) hw)

/-! Late answers: what a run or an operation has used up does not depend on what comes later. -/

section Late

variable (ws : List WriteAnswer) (rs : List RxItem)

theorem advance_feed {s s' : State} (h : Advance s s') : Advance (s.feed ws rs) (s'.feed ws rs) := by
  cases h with
  | @command rest hp hw => exact .command (rest := rest ++ ws) hp (by simp [hw])
  | @commandFails e rest hp hw => exact .commandFails (rest := rest ++ ws) hp (by simp [hw])
  | @page f rest hp hk hl hr hc => exact .page (rest := rest ++ rs) hp hk hl (by simp [hr]) hc
  | @badPage f rest hp hk hl hr hc => exact .badPage (rest := rest ++ rs) hp hk hl (by simp [hr]) hc
  | @pageFails part e rest hp hk hl hr => exact .pageFails (rest := rest ++ rs) hp hk hl (by simp [hr])
  | pagesDone hp hk => exact .pagesDone hp hk

theorem finishRead_feed (rr : WriteAnswer) (s : State) :
    finishRead rr (s.feed ws rs) = (finishRead rr s).feed ws rs := by
  cases h : s.rdErr <;> cases rr <;> simp only [finishRead, State.feed_rdErr, h] <;> rfl

/-- A run that waits goes on with the late answers as if they had been there; one that has ended leaves
them. -/
theorem continueRead_feed {s : State} (h : s.phase ≠ .idle) :
    ((continueRead s).phase ≠ .idle ∧
      continueRead ((continueRead s).feed ws rs) = continueRead (s.feed ws rs)) ∨
    ((continueRead s).phase = .idle ∧ continueRead (s.feed ws rs) = (continueRead s).feed ws rs) := by
  obtain ⟨u, hu, ht⟩ := continueRead_run h
  have hfeed := hu.lift (State.feed ws rs) fun _ _ => advance_feed ws rs
  generalize continueRead s = t at ht ⊢
  cases ht with
  | blocked hb => exact .inl ⟨phase_ne_idle_of_blocked hb, (continueRead_of_advances hfeed).symm⟩
  | @ended rr rest hp hw =>
    obtain ⟨r, blk, hfin, -⟩ := finishRead_deliver rr (u.wrote [] rr rest)
    refine .inr ⟨by rw [hfin]; rfl, ?_⟩
    rw [← finishRead_feed]
    exact continueRead_eq hfeed (.ended (rest := rest ++ ws) hp (by simp [hw]))

theorem writeAndReport_feed {s : State} (h : s.wrIn ≠ []) (w : Waiting) (bs : Bytes) :
    writeAndReport w bs (s.feed ws rs) = (writeAndReport w bs s).feed ws rs := by
  match hw : s.wrIn with
  | [] => exact absurd hw h
  | .ok :: rest =>
    rw [writeAndReport_of_ok hw, writeAndReport_of_ok (ws := rest ++ ws) (by simp [hw])]
    rfl
  | .err e :: rest =>
    rw [writeAndReport_of_err hw, writeAndReport_of_err (e := e) (ws := rest ++ ws) (by simp [hw])]
    rfl

theorem stageRdSp_feed (p : Params) (s : State) :
    stageRdSp p (s.feed ws rs) = (stageRdSp p s).feed ws rs := by
  cases h : encRdSp p with
  | none =>
    rw [stageRdSp_of_none h, stageRdSp_of_none h]
    rfl
  | some frame =>
    rw [stageRdSp_of_some h, stageRdSp_of_some h]
    rfl

theorem checkPage_feed (first : Bool) (pfx f : Bytes) (s : State) :
    checkPage first pfx f (s.feed ws rs) = (checkPage first pfx f s).feed ws rs := by
  by_cases hv : ~~~(frameRx f) = frameChecksum first pfx f
  · rw [checkPage_of_valid hv, checkPage_of_valid hv]
    rfl
  · rw [checkPage_of_invalid hv, checkPage_of_invalid hv]
    rfl

/-- An operation that makes no channel call leaves late answers alone. -/
theorem exec_feed_of_no_call {i : Instr} {s t : State} (hi : i.callsOnce = false)
    (hr : ∀ addr n, i ≠ .readmem addr n) (h : exec i s = .next t) :
    exec i (s.feed ws rs) = .next (t.feed ws rs) := by
  cases i with
  | send | recvsp | busreset => cases hi
  | readmem addr n => exact absurd rfl (hr addr n)
  | crcClr | crcUpd | crcRd | checksum | encCpysp | encRdmem | encClrmem | encStop | encStart =>
    cases h
    rfl
  | encRdsp =>
    cases h
    exact congrArg _ (stageRdSp_feed ws rs _ s)
  | encWrsp addr data =>
    by_cases hl : data.length = 32
    · rw [exec_encWrsp_of_length hl] at h ⊢
      cases h
      rfl
    · rw [exec_encWrsp_of_length_ne hl] at h ⊢
      cases h
      rfl
  | decSp f =>
    by_cases hl : f.length = 35
    · rw [exec_decSp_of_length hl] at h ⊢
      cases h
      rfl
    · rw [exec_decSp_of_length_ne hl] at h ⊢
      cases h
      rfl
  | decPage first pfx f =>
    by_cases hl : pfx.length = 3 ∧ f.length = 34
    · rw [exec_decPage_of_length hl.1 hl.2] at h ⊢
      cases h
      exact congrArg _ (checkPage_feed ws rs first pfx f s)
    · rw [exec_decPage_of_length_ne (not_and_or.mp hl)] at h ⊢
      cases h
      rfl

/-- The step of a blocked operation runs it from its start, with the late answers. -/
theorem step_feed_of_waiting {s : State} (h : s.ready) (w : Waiting) :
    step ((s.setWaiting (some w)).feed ws rs) = exec w.instr (s.feed ws rs) := by
  rw [step_of_waiting (s := (s.setWaiting (some w)).feed ws rs) h.1 rfl]
  exact congrArg (exec w.instr) (setWaiting_of_eq (s := s.feed ws rs) h.2)

theorem not_ready_setWaiting (s : State) (w : Waiting) : ¬ (s.setWaiting (some w)).ready :=
  fun h => nomatch h.2

/-- The operation `i` from `s` to `t` and later answers (R124): it is blocked and resumes as if the late answers had been there, or it has
ended and leaves them. -/
def LateSafe (i : Instr) (s t : State) : Prop :=
  (¬ t.ready ∧ step (t.feed ws rs) = exec i (s.feed ws rs)) ∨
  (t.ready ∧ exec i (s.feed ws rs) = .next (t.feed ws rs))

theorem lateSafe_writeAndReport {s : State} (h : s.ready) (w : Waiting) (bs : Bytes)
    (hex : ∀ s' : State, s'.txBuf = s.txBuf → exec w.instr s' = .next (writeAndReport w bs s')) :
    LateSafe ws rs w.instr s (writeAndReport w bs s) := by
  by_cases hw : s.wrIn = []
  · rw [writeAndReport_of_nil hw]
    exact .inl ⟨not_ready_setWaiting s w, step_feed_of_waiting ws rs h w⟩
  · refine .inr ⟨?_, (hex (s.feed ws rs) rfl).trans (congrArg _ (writeAndReport_feed ws rs hw w bs))⟩
    obtain ⟨hnil, -⟩ | ⟨rest, -, hr⟩ | ⟨e, rest, -, hr⟩ := writeAndReport_cases w bs s
    · exact absurd hnil hw
    · exact hr ▸ h
    · exact hr ▸ h

theorem lateSafe_recvsp {s t : State} (h : s.ready) (hex : execRecvsp s = .next t) :
    LateSafe ws rs .recvsp s t := by
  obtain ⟨bs, rest, hl, hr, hread⟩ | ⟨part, e, rest, hl, hr, hread⟩ | ⟨part, -, -, hread⟩ := chRead_cases 35 s
  · have hfeed := chRead_bytes (s := s.feed ws rs) (rest := rest ++ rs) hl (by simp [hr])
    cases (execRecvsp_of_ok hread).symm.trans hex
    exact .inr ⟨h, execRecvsp_of_ok hfeed⟩
  · have hfeed := chRead_fail (s := s.feed ws rs) (rest := rest ++ rs) (e := e) hl (by simp [hr])
    cases (execRecvsp_of_err hread).symm.trans hex
    exact .inr ⟨h, execRecvsp_of_err hfeed⟩
  · cases (execRecvsp_of_none hread).symm.trans hex
    exact .inl ⟨not_ready_setWaiting s .recvSp, step_feed_of_waiting ws rs h .recvSp⟩

theorem lateSafe_readmem {s t : State} (h : s.ready) (addr : Word) (n : Nat)
    (hex : exec (.readmem addr n) s = .next t) : LateSafe ws rs (.readmem addr n) s t := by
  by_cases hn : pagesAllowed Config.params n = true
  · rw [exec_readmem_of_allowed hn] at hex
    cases hex
    have hbusy : (latchRead Config.params addr n s).phase ≠ .idle := by simp
    have hwait := (keeps_continueRead hbusy).waiting.trans h.2
    have hlate : exec (.readmem addr n) (s.feed ws rs) =
        .next (continueRead ((latchRead Config.params addr n s).feed ws rs)) := exec_readmem_of_allowed hn addr _
    obtain ⟨hp, hrun⟩ | ⟨hp, hrun⟩ := continueRead_feed ws rs hbusy
    · refine .inl ⟨fun hready => hp hready.1, ?_⟩
      rw [hlate, ← hrun]
      exact step_of_busy (s := State.feed ws rs _) hp
    · exact .inr ⟨⟨hp, hwait⟩, hlate.trans (congrArg _ hrun)⟩
  · rw [exec_readmem_of_not_allowed hn] at hex
    cases hex
    exact .inr ⟨h, exec_readmem_of_not_allowed hn addr _⟩

theorem ready_of_no_call {i : Instr} {s t : State} (he : Effect i s t) (h : s.ready) (hi : i.callsOnce = false)
    (hr : ∀ addr n, i ≠ .readmem addr n) : t.ready := by
  obtain ⟨-, -, -, -, -, hp, -⟩ := transaction_of_effect he hr
  obtain ⟨-, -, -, hw⟩ := channel_of_effect he hi hr
  exact ⟨hp.trans h.1, hw.trans h.2⟩

theorem lateSafe_exec {i : Instr} {s t : State} (h : s.ready) (hex : exec i s = .next t) :
    LateSafe ws rs i s t := by
  cases i with
  | send =>
    by_cases htx : s.txBuf = []
    · rw [exec_send_of_nil htx] at hex
      cases hex
      exact .inr ⟨h, exec_send_of_nil (s := s.feed ws rs) htx⟩
    · rw [exec_send_of_ne_nil htx] at hex
      cases hex
      refine lateSafe_writeAndReport ws rs h .send _ fun s' hs' => ?_
      rw [← hs'] at htx ⊢
      exact exec_send_of_ne_nil htx
  | busreset =>
    cases hex
    exact lateSafe_writeAndReport ws rs h .busReset [] fun s' _ => exec_busreset s'
  | recvsp => exact lateSafe_recvsp ws rs h hex
  | readmem addr n => exact lateSafe_readmem ws rs h addr n hex
  | crcClr | crcUpd | crcRd | checksum | encWrsp | encCpysp | encRdsp | encRdmem | encClrmem | encStop | encStart
    | decPage | decSp =>
    exact .inr ⟨ready_of_no_call (effect_of_exec hex) h rfl (by simp),
      exec_feed_of_no_call ws rs rfl (by simp) hex⟩

end Late

/-- Settles O40. -/
theorem lateAnswersMakeNoDifference : Obligations.LateAnswersMakeNoDifference := by
  intro i s t ws rs h hex
  obtain ⟨hbusy, hstep⟩ | ⟨hready, hlate⟩ := lateSafe_exec ws rs h hex
  · exact ⟨fun _ => hstep, fun hready => absurd hready hbusy⟩
  · exact ⟨fun hbusy => absurd hready hbusy, fun _ => hlate⟩

end Sys2Proof.Machine
end

section
/-! PROOFS. What the results depend on: two runs of one operation compared (10_state.md R20). -/

namespace Sys2Proof.Machine

open Relation (ReflTransGen)

/-- From `s1` to `t1` and from `s2` to `t2` the same results are delivered and the same channel events made, and
the same answers are left. -/
def SameAnswers (s1 s2 t1 t2 : State) : Prop :=
  ∃ (out : List Result) (evs : List Event),
    t1.hostOut = s1.hostOut ++ out ∧ t2.hostOut = s2.hostOut ++ out ∧
    t1.history = s1.history ++ evs ∧ t2.history = s2.history ++ evs ∧
    t1.wrIn = t2.wrIn ∧ t1.rdIn = t2.rdIn ∧ (out ≠ [] → t1.status = t2.status)

/-- The two runs have come as far as `u1` and `u2` with the same channel events and no result. -/
def SameSoFar (s1 s2 u1 u2 : State) : Prop :=
  u1.hostOut = s1.hostOut ∧ u2.hostOut = s2.hostOut ∧ u1.wrIn = u2.wrIn ∧ u1.rdIn = u2.rdIn ∧
    ∃ evs, u1.history = s1.history ++ evs ∧ u2.history = s2.history ++ evs

section Ends

variable {s1 s2 u1 u2 : State}

theorem SameSoFar.refl (hw : s1.wrIn = s2.wrIn) (hr : s1.rdIn = s2.rdIn) : SameSoFar s1 s2 s1 s2 :=
  ⟨rfl, rfl, hw, hr, [], by simp, by simp⟩

theorem SameSoFar.silent (h : SameSoFar s1 s2 u1 u2) : SameAnswers s1 s2 u1 u2 := by
  obtain ⟨hout1, hout2, hw, hr, evs, hh1, hh2⟩ := h
  exact ⟨[], evs, by simp [hout1], by simp [hout2], hh1, hh2, hw, hr, fun h => absurd rfl h⟩

theorem SameSoFar.deliver (h : SameSoFar s1 s2 u1 u2) (r : Result) :
    SameAnswers s1 s2 (deliver r u1) (deliver r u2) := by
  obtain ⟨hout1, hout2, hw, hr, evs, hh1, hh2⟩ := h
  exact ⟨[r], evs, congrArg (· ++ [r]) hout1, congrArg (· ++ [r]) hout2, hh1, hh2, hw, hr, fun _ => rfl⟩

end Ends

/-! Operations of at most one channel call. -/

section OneCall

variable {s1 s2 : State} (hw : s1.wrIn = s2.wrIn) (hr : s1.rdIn = s2.rdIn)
include hw hr

theorem sameAnswers_writeAndReport (w : Waiting) (bs : Bytes) :
    SameAnswers s1 s2 (writeAndReport w bs s1) (writeAndReport w bs s2) := by
  have hwrote : ∀ a rest, SameSoFar s1 s2 (s1.wrote bs a rest) (s2.wrote bs a rest) :=
    fun a _ => ⟨rfl, rfl, rfl, hr, [.w bs a], rfl, rfl⟩
  match h1 : s1.wrIn with
  | [] =>
    rw [writeAndReport_of_nil h1, writeAndReport_of_nil (hw ▸ h1)]
    exact (SameSoFar.refl hw hr).silent
  | .ok :: rest =>
    rw [writeAndReport_of_ok h1, writeAndReport_of_ok (hw ▸ h1)]
    exact (hwrote .ok rest).deliver (.ok .unit)
  | .err e :: rest =>
    rw [writeAndReport_of_err h1, writeAndReport_of_err (hw ▸ h1)]
    exact (hwrote (.err e) rest).deliver _

theorem sameAnswers_recvsp {t1 t2 : State} (h1 : execRecvsp s1 = .next t1) (h2 : execRecvsp s2 = .next t2) :
    SameAnswers s1 s2 t1 t2 := by
  have hread : ∀ a rest, SameSoFar s1 s2 (s1.read 35 a rest) (s2.read 35 a rest) :=
    fun a _ => ⟨rfl, rfl, hw, rfl, [.r 35 a], rfl, rfl⟩
  obtain ⟨bs, rest, hl, hs, -⟩ | ⟨part, e, rest, hl, hs, -⟩ | ⟨part, hl, hs, -⟩ := chRead_cases 35 s1
  · cases (execRecvsp_of_ok (chRead_bytes hl hs)).symm.trans h1
    cases (execRecvsp_of_ok (chRead_bytes hl (hr ▸ hs))).symm.trans h2
    exact (hread (.ok bs) rest).deliver (.ok (.bytes bs))
  · cases (execRecvsp_of_err (chRead_fail hl hs)).symm.trans h1
    cases (execRecvsp_of_err (chRead_fail hl (hr ▸ hs))).symm.trans h2
    exact (hread (.err e) rest).deliver _
  · cases (execRecvsp_of_none (chRead_short hl hs)).symm.trans h1
    cases (execRecvsp_of_none (chRead_short hl (hr ▸ hs))).symm.trans h2
    exact (SameSoFar.refl hw hr).silent

end OneCall

/-! Runs of READMEM. -/

/-- Two transactions at the same place: equal in what READMEM reads, and the same so far since `b1` and `b2`. -/
structure SamePlace (b1 b2 s1 s2 : State) : Prop where
  pfx : s2.pfx = s1.pfx
  first : s2.first = s1.first
  k : s2.k = s1.k
  n : s2.n = s1.n
  blk : s2.blk = s1.blk
  phase : s2.phase = s1.phase
  rdErr : s2.rdErr = s1.rdErr
  soFar : SameSoFar b1 b2 s1 s2

section

variable {b1 b2 s1 s2 : State}

theorem SamePlace.wrIn (h : SamePlace b1 b2 s1 s2) : s2.wrIn = s1.wrIn := by
  obtain ⟨-, -, hw, -⟩ := h.soFar
  exact hw.symm

theorem SamePlace.rdIn (h : SamePlace b1 b2 s1 s2) : s2.rdIn = s1.rdIn := by
  obtain ⟨-, -, -, hr, -⟩ := h.soFar
  exact hr.symm

theorem SameSoFar.wrote (h : SameSoFar b1 b2 s1 s2) (bs : Bytes) (a : WriteAnswer) (rest : List WriteAnswer) :
    SameSoFar b1 b2 (s1.wrote bs a rest) (s2.wrote bs a rest) := by
  obtain ⟨hout1, hout2, -, hr, evs, hh1, hh2⟩ := h
  exact ⟨hout1, hout2, rfl, hr, evs ++ [.w bs a], by simp [hh1], by simp [hh2]⟩

theorem SameSoFar.read (h : SameSoFar b1 b2 s1 s2) (n : Nat) (a : ReadAnswer) (rest : List RxItem) :
    SameSoFar b1 b2 (s1.read n a rest) (s2.read n a rest) := by
  obtain ⟨hout1, hout2, hw, -, evs, hh1, hh2⟩ := h
  exact ⟨hout1, hout2, hw, rfl, evs ++ [.r n a], by simp [hh1], by simp [hh2]⟩

theorem SamePlace.readFrame_eq (h : SamePlace b1 b2 s1 s2) :
    readFrame Config.params s2 = readFrame Config.params s1 := by
  rw [readFrame, readFrame, h.pfx]

theorem SamePlace.frameChecksum_eq (h : SamePlace b1 b2 s1 s2) (f : Bytes) :
    frameChecksum s2.first s2.pfx f = frameChecksum s1.first s1.pfx f := by
  rw [h.pfx, h.first]

theorem samePlace_advance {s1' : State} (ha : Advance s1 s1') (h : SamePlace b1 b2 s1 s2) :
    ∃ s2', Advance s2 s2' ∧ SamePlace b1 b2 s1' s2' := by
  cases ha with
  | command hp hw =>
    exact ⟨_, .command (h.phase.trans hp) (h.wrIn.trans hw),
      { h with phase := rfl, soFar := h.readFrame_eq ▸ h.soFar.wrote _ _ _ }⟩
  | commandFails hp hw =>
    exact ⟨_, .commandFails (h.phase.trans hp) (h.wrIn.trans hw),
      { h with phase := rfl, rdErr := rfl, soFar := h.readFrame_eq ▸ h.soFar.wrote _ _ _ }⟩
  | @page f rest hp hk hl hr hc =>
    exact ⟨_, .page (h.phase.trans hp) (h.k ▸ h.n ▸ hk) hl (h.rdIn.trans hr) (h.frameChecksum_eq f ▸ hc),
      { h with first := rfl, k := by simp [h.k], blk := by simp [h.blk], soFar := h.soFar.read _ _ _ }⟩
  | @badPage f rest hp hk hl hr hc =>
    exact ⟨_, .badPage (h.phase.trans hp) (h.k ▸ h.n ▸ hk) hl (h.rdIn.trans hr) (h.frameChecksum_eq f ▸ hc),
      { h with phase := rfl, rdErr := by simp [h.k], soFar := h.soFar.read _ _ _ }⟩
  | pageFails hp hk hl hr =>
    exact ⟨_, .pageFails (h.phase.trans hp) (h.k ▸ h.n ▸ hk) hl (h.rdIn.trans hr),
      { h with phase := rfl, rdErr := by simp [h.k], soFar := h.soFar.read _ _ _ }⟩
  | pagesDone hp hk =>
    exact ⟨_, .pagesDone (h.phase.trans hp) (h.k ▸ h.n ▸ hk), { h with phase := rfl, rdErr := rfl }⟩

theorem samePlace_advances {u1 : State} (ha : ReflTransGen Advance s1 u1) (h : SamePlace b1 b2 s1 s2) :
    ∃ u2, ReflTransGen Advance s2 u2 ∧ SamePlace b1 b2 u1 u2 := by
  induction ha with
  | refl => exact ⟨s2, .refl, h⟩
  | tail _ hstep ih =>
    obtain ⟨u2, hu2, hu⟩ := ih
    obtain ⟨v2, hv2, hv⟩ := samePlace_advance hstep hu
    exact ⟨v2, hu2.tail hv2, hv⟩

/-- The result of a transaction's end depends on the error met, the block and the reset write's answer. -/
theorem finishRead_same (rr : WriteAnswer) (he : s2.rdErr = s1.rdErr) (hb : s2.blk = s1.blk) :
    ∃ (r : Result) (blk : Bytes),
      finishRead rr s1 = deliver r { (s1.setRdErr none).setPhase .idle with blk := blk } ∧
      finishRead rr s2 = deliver r { (s2.setRdErr none).setPhase .idle with blk := blk } := by
  cases h : readError s1.rdErr rr with
  | some e => exact ⟨_, [], finishRead_of_error h, finishRead_of_error (he ▸ h)⟩
  | none =>
    obtain ⟨hrd, rfl⟩ := readError_eq_none h
    exact ⟨_, s1.blk, finishRead_of_ok hrd, by rw [finishRead_of_ok (he.trans hrd), ← hb]; rfl⟩

theorem samePlace_stops {t1 : State} (ht : Stops s1 t1) (h : SamePlace b1 b2 s1 s2) :
    ∃ t2, Stops s2 t2 ∧ SameAnswers b1 b2 t1 t2 := by
  cases ht with
  | blocked hb =>
    refine ⟨s2, .blocked ?_, h.soFar.silent⟩
    cases hb with
    | write hp hw => exact .write (h.phase.symm ▸ hp) (h.wrIn.trans hw)
    | read hp hk hl hr => exact .read (h.phase.trans hp) (h.k ▸ h.n ▸ hk) hl (h.rdIn.trans hr)
  | @ended rr rest hp hw =>
    refine ⟨_, .ended (h.phase.trans hp) (h.wrIn.trans hw), ?_⟩
    obtain ⟨r, blk, hr1, hr2⟩ :=
      finishRead_same (s1 := s1.wrote [] rr rest) (s2 := s2.wrote [] rr rest) rr h.rdErr h.blk
    rw [hr1, hr2]
    exact (h.soFar.wrote [] rr rest).deliver r

end

theorem sameAnswers_continueRead {s1 s2 : State} (h : SamePlace s1 s2 s1 s2) (hp : s1.phase ≠ .idle) :
    SameAnswers s1 s2 (continueRead s1) (continueRead s2) := by
  obtain ⟨u1, hu1, ht1⟩ := continueRead_run hp
  obtain ⟨u2, hu2, hu⟩ := samePlace_advances hu1 h
  obtain ⟨t2, ht2, ht⟩ := samePlace_stops ht1 hu
  rwa [continueRead_eq hu2 ht2]

theorem samePlace_latchRead {s1 s2 : State} (hw : s1.wrIn = s2.wrIn) (hr : s1.rdIn = s2.rdIn) (addr : Word)
    (n : Nat) :
    SamePlace (latchRead Config.params addr n s1) (latchRead Config.params addr n s2)
      (latchRead Config.params addr n s1) (latchRead Config.params addr n s2) where
  pfx := rfl
  first := rfl
  k := rfl
  n := rfl
  blk := rfl
  phase := rfl
  rdErr := rfl
  soFar := .refl hw hr

/-- Settles O48, operation by operation. -/
theorem resultsDependOnOperandsOnly : Obligations.ResultsDependOnOperandsOnly := by
  intro i s1 s2 t1 t2 hw hr hcrc htx h1 h2
  show SameAnswers s1 s2 t1 t2
  have h0 : SameSoFar s1 s2 s1 s2 := .refl hw hr
  have hc : ∀ c1 c2, SameSoFar s1 s2 (s1.setCrc c1) (s2.setCrc c2) := fun _ _ => h0
  have hf : ∀ frame, SameSoFar s1 s2 (s1.setTxBuf frame) (s2.setTxBuf frame) := fun _ => h0
  cases i with
  | crcClr | crcUpd | checksum =>
    cases h1
    cases h2
    exact (hc _ _).deliver _
  | encCpysp | encRdmem | encClrmem | encStop | encStart =>
    cases h1
    cases h2
    exact (hf _).deliver _
  | crcRd =>
    cases h1
    cases h2
    rw [hcrc (.inl rfl)]
    exact h0.deliver _
  | encWrsp addr data =>
    by_cases hl : data.length = 32
    · cases (exec_encWrsp_of_length hl addr s1).symm.trans h1
      cases (exec_encWrsp_of_length hl addr s2).symm.trans h2
      exact (hf _).deliver _
    · cases (exec_encWrsp_of_length_ne hl addr s1).symm.trans h1
      cases (exec_encWrsp_of_length_ne hl addr s2).symm.trans h2
      exact h0.deliver _
  | encRdsp =>
    cases h1
    cases h2
    cases hp : encRdSp Config.params with
    | none =>
      rw [stageRdSp_of_none hp, stageRdSp_of_none hp]
      exact h0.deliver _
    | some frame =>
      rw [stageRdSp_of_some hp, stageRdSp_of_some hp]
      exact (hf frame).deliver _
  | decPage first pfx f =>
    by_cases hl : pfx.length = 3 ∧ f.length = 34
    · cases (exec_decPage_of_length hl.1 hl.2 first s1).symm.trans h1
      cases (exec_decPage_of_length hl.1 hl.2 first s2).symm.trans h2
      by_cases hv : ~~~(frameRx f) = frameChecksum first pfx f
      · rw [checkPage_of_valid hv, checkPage_of_valid hv]
        exact (hc _ _).deliver (.ok (.bytes (frameData f)))
      · rw [checkPage_of_invalid hv, checkPage_of_invalid hv]
        exact (hc _ _).deliver _
    · cases (exec_decPage_of_length_ne (not_and_or.mp hl) first s1).symm.trans h1
      cases (exec_decPage_of_length_ne (not_and_or.mp hl) first s2).symm.trans h2
      exact h0.deliver _
  | decSp f =>
    by_cases hl : f.length = 35
    · cases (exec_decSp_of_length hl s1).symm.trans h1
      cases (exec_decSp_of_length hl s2).symm.trans h2
      exact h0.deliver _
    · cases (exec_decSp_of_length_ne hl s1).symm.trans h1
      cases (exec_decSp_of_length_ne hl s2).symm.trans h2
      exact h0.deliver _
  | send =>
    have htx := htx rfl
    by_cases hne : s1.txBuf = []
    · cases (exec_send_of_nil hne).symm.trans h1
      cases (exec_send_of_nil (htx ▸ hne)).symm.trans h2
      exact h0.deliver _
    · cases (exec_send_of_ne_nil hne).symm.trans h1
      cases (exec_send_of_ne_nil (htx ▸ hne)).symm.trans h2
      rw [← htx]
      exact sameAnswers_writeAndReport hw hr .send _
  | recvsp => exact sameAnswers_recvsp hw hr h1 h2
  | busreset =>
    cases h1
    cases h2
    exact sameAnswers_writeAndReport hw hr .busReset []
  | readmem addr n =>
    by_cases hn : pagesAllowed Config.params n = true
    · cases (exec_readmem_of_allowed hn addr s1).symm.trans h1
      cases (exec_readmem_of_allowed hn addr s2).symm.trans h2
      exact sameAnswers_continueRead (samePlace_latchRead hw hr addr n) (by simp)
    · cases (exec_readmem_of_not_allowed hn addr s1).symm.trans h1
      cases (exec_readmem_of_not_allowed hn addr s2).symm.trans h2
      exact h0.deliver _

end Sys2Proof.Machine
end

section
/-! PROOFS. The exit paths of READMEM (43_read_transaction.md R81 to R85): the pages that validate, and each way the transaction ends after them. -/

namespace Sys2Proof.Machine

open Relation (ReflTransGen)

/-! The frames of pages that validate (R82). -/

theorem streamOf_cons (f : Bytes) (fs : List Bytes) : streamOf (f :: fs) = f.map .byte ++ streamOf fs := by
  simp [streamOf]

theorem readEvents_cons (f : Bytes) (fs : List Bytes) : readEvents (f :: fs) = .r 34 (.ok f) :: readEvents fs := rfl

/-- From `s` to `u` the good frames of the pages `ds` were read, with `rest` left on the stream. -/
structure PagesRead (ds : List Bytes) (rest : List RxItem) (s u : State) : Prop where
  phase : u.phase = .page
  rdErr : u.rdErr = none
  k : u.k = s.k + ds.length
  first : u.first = (s.first && ds.isEmpty)
  blk : u.blk = s.blk ++ ds.flatten
  wrIn : u.wrIn = s.wrIn
  rdIn : u.rdIn = rest
  history : u.history = s.history ++ readEvents (goodFrames s.first s.pfx ds)
  rxBuf : u.rxBuf.drop 34 = s.rxBuf.drop 34
  none : ds = [] → u = s
  last : ∀ d, ds.getLast? = some d →
    u.crc = checksum (context (s.first && decide (ds.length = 1)) s.pfx d) ∧
    u.rxBuf.take 34 = makePage (s.first && decide (ds.length = 1)) s.pfx d

theorem pagesRead_of_stream {ds : List Bytes} {rest : List RxItem} {s : State} (hp : s.phase = .page)
    (he : s.rdErr = none) (hd : ∀ d ∈ ds, d.length = 32) (hk : s.k + ds.length ≤ s.n)
    (hr : s.rdIn = streamOf (goodFrames s.first s.pfx ds) ++ rest) :
    ∃ u, ReflTransGen Advance s u ∧ PagesRead ds rest s u := by
  induction ds generalizing s with
  | nil =>
    exact ⟨s, .refl, hp, he, rfl, by simp, by simp, rfl, hr, by simp [goodFrames, readEvents], rfl, fun _ => rfl,
      by simp⟩
  | cons d ds ih =>
    have hd0 : d.length = 32 := hd d List.mem_cons_self
    have hl := makePage_length (first := s.first) (pfx := s.pfx) hd0
    have hr0 : s.rdIn = (makePage s.first s.pfx d).map .byte ++
        (streamOf (goodFrames false s.pfx ds) ++ rest) := by
      rw [hr, goodFrames, streamOf_cons, List.append_assoc]
    rw [List.length_cons] at hk
    have hstep := Advance.page hp (by omega) hl hr0 (makePage_passes hd0)
    have hrest : ∀ x ∈ ds, x.length = 32 := fun x hx => hd x (List.mem_cons_of_mem _ hx)
    generalize hf : makePage s.first s.pfx d = f at hl hr0 hstep
    obtain ⟨u, hu, h⟩ := 
      ih (s := acceptPage f (loadPage f (s.read 34 (.ok f) (streamOf (goodFrames false s.pfx ds) ++ rest)))) hp he
        hrest (by simp; omega) rfl
    refine ⟨u, .head hstep hu, ?_⟩
    exact {
      phase := h.phase
      rdErr := h.rdErr
      k := by rw [h.k]; simp; omega
      first := by rw [h.first]; simp
      blk := by rw [h.blk]; simp [← hf, frameData_makePage hd0]
      wrIn := h.wrIn
      rdIn := h.rdIn
      history := by rw [h.history]; simp [goodFrames, readEvents_cons, hf]
      rxBuf := by rw [h.rxBuf]; simp [hl]
      none := by simp
      last := by
        intro x hx
        match ds with
        | [] =>
          obtain rfl : d = x := by simpa using hx
          rw [h.none rfl]
          simp [← hf, frameChecksum, frameData_makePage hd0, makePage_length hd0]
        | d' :: ds' =>
          have hx' : (d' :: ds').getLast? = some x := by simpa using hx
          simpa using h.last x hx' }

/-- READMEM has written its command and read the good frames of the pages `ds`; `ws` and `rest` are what the
channel has still answered. -/
structure AfterPages (addr : Word) (n : Nat) (ds : List Bytes) (ws : List WriteAnswer) (rest : List RxItem)
    (s u : State) : Prop where
  phase : u.phase = .page
  rdErr : u.rdErr = none
  k : u.k = ds.length
  n_eq : u.n = n
  first : u.first = ds.isEmpty
  pfx : u.pfx = readPfx addr
  blk : u.blk = ds.flatten
  wrIn : u.wrIn = ws
  rdIn : u.rdIn = rest
  history : u.history =
    s.history ++ (.w (readCmd addr) .ok :: readEvents (goodFrames true (readPfx addr) ds))
  rxBuf : u.rxBuf.drop 34 = s.rxBuf.drop 34
  last : ∀ d, ds.getLast? = some d →
    u.crc = checksum (context (decide (ds.length = 1)) (readPfx addr) d) ∧
    u.rxBuf.take 34 = makePage (decide (ds.length = 1)) (readPfx addr) d
  hostOut : u.hostOut = s.hostOut
  txBuf : u.txBuf = s.txBuf
  waiting : u.waiting = s.waiting
  hostIn : u.hostIn = s.hostIn

section

variable {addr : Word} {n : Nat} {ds : List Bytes} {ws : List WriteAnswer} {rest : List RxItem} {s : State}

theorem afterPages_of_stream (hd : ∀ d ∈ ds, d.length = 32) (hn : ds.length ≤ n) (hw : s.wrIn = .ok :: ws)
    (hr : s.rdIn = streamOf (goodFrames true (readPfx addr) ds) ++ rest) :
    ∃ u, ReflTransGen Advance (latchRead Config.params addr n s) u ∧ AfterPages addr n ds ws rest s u := by
  have hcmd := Advance.command (s := latchRead Config.params addr n s) rfl hw
  obtain ⟨u, hu, h⟩ := pagesRead_of_stream
    (s := ((latchRead Config.params addr n s).wrote (readCmd addr) .ok ws).setPhase .page) rfl rfl hd
    (by simpa using hn) hr
  have hrun := ReflTransGen.head hcmd hu
  have hkeep := keeps_of_advances hrun
  refine ⟨u, hrun, ?_⟩
  exact {
    phase := h.phase
    rdErr := h.rdErr
    k := h.k.trans (Nat.zero_add _)
    n_eq := hkeep.n
    first := h.first
    pfx := hkeep.pfx
    blk := h.blk
    wrIn := h.wrIn
    rdIn := h.rdIn
    history := h.history.trans (List.append_assoc ..)
    rxBuf := h.rxBuf
    last := h.last
    hostOut := (silent_of_advances hrun).1
    txBuf := hkeep.txBuf
    waiting := hkeep.waiting
    hostIn := hkeep.hostIn }

/-- The end of a READMEM whose run comes to the reset write, which is answered. -/
theorem exec_readmem_of_reset {v : State} {rr : WriteAnswer} (hn : pagesAllowed Config.params n = true)
    (hv : ReflTransGen Advance (latchRead Config.params addr n s) v) (hp : v.phase = .reset)
    (hw : v.wrIn = rr :: ws) : exec (.readmem addr n) s = .next (finishRead rr (v.wrote [] rr ws)) := by
  rw [exec_readmem_of_allowed hn, continueRead_eq hv (.ended hp hw)]

end

/-- The data of `n` pages of `m` bytes. -/
theorem length_flatten_of_forall {ds : List Bytes} {m : Nat} (h : ∀ d ∈ ds, d.length = m) :
    ds.flatten.length = m * ds.length := by
  rw [List.length_flatten, List.map_congr_left h, List.map_const', List.sum_replicate, smul_eq_mul, Nat.mul_comm]

/-- Settles O27: the pages, then the reset without an error, whose write is accepted. -/
theorem readmemReturnsAllPages : Obligations.ReadmemReturnsAllPages := by
  intro addr ds ws rs s hd hn hw hr
  obtain ⟨u, hu, h⟩ := afterPages_of_stream hd le_rfl hw hr
  have hv := hu.tail (.pagesDone h.phase (h.n_eq.trans h.k.symm).le)
  have hne : ds ≠ [] := List.ne_nil_of_length_pos (pagesAllowed_iff.mp hn).1
  refine ⟨_, exec_readmem_of_reset hn hv rfl h.wrIn, ?_⟩
  rw [finishRead_of_ok (by simp)]
  have hlen := length_flatten_of_forall hd
  refine ⟨?_, hlen, ?_, ?_, ?_, ?_, ?_, ?_, rfl, rfl, rfl, fun d hlast => by simpa using h.last d hlast, rfl, ?_⟩
  all_goals
    simp [h.hostOut, h.history, h.blk, h.k, h.n_eq, h.first, h.pfx, h.rdIn, h.txBuf, h.waiting, h.hostIn, hne]

theorem readError_of_met (e : OpError) (rr : WriteAnswer) :
    readError (some e) rr = some { e with resetFailed := some rr.failed } := rfl

/-- Settles O28: the failed command write leads to the reset at once. -/
theorem readmemCommandWriteFails : Obligations.ReadmemCommandWriteFails := by
  intro addr n e rr ws s hn hw
  have hv := ReflTransGen.single (Advance.commandFails (s := latchRead Config.params addr n s) rfl hw)
  rw [exec_readmem_of_reset hn hv rfl rfl, finishRead_of_error (readError_of_met _ rr)]
  have hpfx : (encRdMem Config.params addr).take 3 = readPfx addr := rfl
  simp [deliver, discardBlk, State.setPhase, State.setRdErr, State.wrote, latchRead, firstAtStart, hpfx, readFrame,
    readCmd, statusOf, errCode]

/-- Settles O29: the pages, then a failed read, then the reset. -/
theorem readmemPageReadFails : Obligations.ReadmemPageReadFails := by
  intro addr n ds part e rr ws rs s hn hd hlt hl hw hr
  obtain ⟨u, hu, h⟩ := afterPages_of_stream hd hlt.le hw hr
  have hk : u.k < u.n := by rwa [h.k, h.n_eq]
  have hv := hu.tail (.pageFails h.phase hk hl h.rdIn)
  refine ⟨_, exec_readmem_of_reset hn hv rfl h.wrIn, ?_⟩
  rw [finishRead_of_error (readError_of_met _ rr)]
  simp [h.hostOut, h.history, h.k, h.n_eq, h.first, h.pfx, h.txBuf, h.waiting, h.hostIn, statusOf, errCode]

/-- Settles O30: the pages, then a frame that fails the test in its context, then the reset. -/
theorem readmemPageDoesNotValidate : Obligations.ReadmemPageDoesNotValidate := by
  intro addr n ds f rr ws rs s hn hd hlt hl hbad hw hr
  obtain ⟨u, hu, h⟩ := afterPages_of_stream hd hlt.le hw hr
  have hk : u.k < u.n := by rwa [h.k, h.n_eq]
  have hfirst : u.first = decide (ds.length = 0) := by rw [h.first]; cases ds <;> rfl
  have hc : checkPasses (frameRx f) (frameChecksum u.first u.pfx f) = false := by
    rw [hfirst, h.pfx]
    exact Bool.eq_false_iff.mpr (mt checkPasses_iff_eq_not.mp (decPage_eq_none_iff.mp hbad))
  have hv := hu.tail (.badPage h.phase hk hl h.rdIn hc)
  refine ⟨_, exec_readmem_of_reset hn hv rfl h.wrIn, ?_⟩
  rw [finishRead_of_error (readError_of_met _ rr)]
  simp [h.hostOut, h.history, h.k, h.n_eq, hfirst, h.pfx, h.txBuf, h.waiting, h.hostIn, statusOf, errCode,
    frameChecksum, frameData, h.rxBuf, hl]

/-- Settles O31: the pages, then the reset without an error, whose write fails. -/
theorem readmemResetWriteFails : Obligations.ReadmemResetWriteFails := by
  intro addr ds e ws rs s hd hn hw hr
  obtain ⟨u, hu, h⟩ := afterPages_of_stream hd le_rfl hw hr
  have hv := hu.tail (.pagesDone h.phase (h.n_eq.trans h.k.symm).le)
  have herr : readError none (.err e) = some ⟨.channelError e, none, some true⟩ := rfl
  refine ⟨_, exec_readmem_of_reset hn hv rfl h.wrIn, ?_⟩
  rw [finishRead_of_error herr]
  simp [h.hostOut, h.history, h.k, h.rdIn, h.txBuf, statusOf, errCode]

end Sys2Proof.Machine
end

section
/-! PROOFS. What can be said of every READMEM, whatever the channel answers (43_read_transaction.md R84, R85, R87). -/

namespace Sys2Proof.Machine

open Relation (ReflTransGen)

/-- From `s`, the command at `addr` was written and `frames` were read, each of which validated in its own
context. -/
structure FramesRead (addr : Word) (s : State) (frames : List Bytes) (u : State) : Prop where
  pfx : u.pfx = readPfx addr
  k : u.k = frames.length
  first : u.first = decide (frames.length = 0)
  lengths : ∀ f ∈ frames, f.length = 34
  rdIn : s.rdIn = streamOf frames ++ u.rdIn
  valid : ∀ (k : Nat) (f : Bytes), frames[k]? = some f →
    decPage (decide (k = 0)) (readPfx addr) f = some (f.take 32)
  blk : u.blk = (frames.map (List.take 32)).flatten
  history : u.history = s.history ++ (.w (readCmd addr) .ok :: readEvents frames)

/-- From `s`, the command at `addr` was written and at most `n` reads were made, none after a failed write and
only the last of which can have failed. -/
def BoundedReads (addr : Word) (n : Nat) (s u : State) : Prop :=
  ∃ (a : WriteAnswer) (reads : List ReadAnswer),
    u.history = s.history ++ (.w (readCmd addr) a :: reads.map (.r 34)) ∧ reads.length ≤ n ∧
    (a ≠ .ok → reads = []) ∧ (∀ r ∈ reads.dropLast, ∃ bs, r = .ok bs)

/-- Where a READMEM of `n` pages can stand, by its phase. -/
inductive Trace (addr : Word) (n : Nat) (s : State) : State → Prop where
  | latched : Trace addr n s (latchRead Config.params addr n s)
  | pages {u : State} (frames : List Bytes) (hp : u.phase = .page) (hn : u.n = n) (hk : frames.length ≤ n)
      (h : FramesRead addr s frames u) : Trace addr n s u
  | complete {u : State} (frames : List Bytes) (hp : u.phase = .reset) (hk : frames.length = n)
      (h : FramesRead addr s frames u) : Trace addr n s u
  | failed {u : State} (hp : u.phase = .reset) (he : u.rdErr ≠ none) (h : BoundedReads addr n s u) :
      Trace addr n s u

variable {addr : Word} {n : Nat} {s u : State}

theorem trace_of_cmd (h : Trace addr n s u) (hp : u.phase = .cmd) : u = latchRead Config.params addr n s := by
  cases h with
  | latched => rfl
  | pages frames hp' | complete frames hp' | failed hp' => simp [hp] at hp'

theorem trace_of_page (h : Trace addr n s u) (hp : u.phase = .page) :
    ∃ frames, u.n = n ∧ frames.length ≤ n ∧ FramesRead addr s frames u := by
  cases h with
  | latched => simp at hp
  | pages frames _ hn hk h => exact ⟨frames, hn, hk, h⟩
  | complete frames hp' | failed hp' => simp [hp] at hp'

theorem trace_of_reset (h : Trace addr n s u) (hp : u.phase = .reset) :
    (∃ frames, frames.length = n ∧ FramesRead addr s frames u) ∨ (u.rdErr ≠ none ∧ BoundedReads addr n s u) := by
  cases h with
  | latched => simp at hp
  | pages frames hp' => simp [hp] at hp'
  | complete frames _ hk h => exact .inl ⟨frames, hk, h⟩
  | failed _ he h => exact .inr ⟨he, h⟩

theorem streamOf_concat (fs : List Bytes) (f : Bytes) : streamOf (fs ++ [f]) = streamOf fs ++ f.map .byte := by
  simp [streamOf]

theorem readEvents_eq_map (fs : List Bytes) : readEvents fs = (fs.map ReadAnswer.ok).map (.r 34) := by
  simp [readEvents]

/-- One more frame that validates. -/
theorem framesRead_page {frames : List Bytes} {f : Bytes} {rest : List RxItem} (h : FramesRead addr s frames u)
    (hl : f.length = 34) (hr : u.rdIn = f.map .byte ++ rest)
    (hc : checkPasses (frameRx f) (frameChecksum u.first u.pfx f) = true) :
    FramesRead addr s (frames ++ [f]) (acceptPage f (loadPage f (u.read 34 (.ok f) rest))) where
  pfx := h.pfx
  k := by simp [h.k]
  first := by simp
  lengths := by simpa [or_imp, forall_and, hl] using h.lengths
  rdIn := by simp [h.rdIn, hr, streamOf_concat]
  valid := by
    intro k g hg
    rw [List.getElem?_append] at hg
    split at hg
    case isTrue hlt => exact h.valid k g hg
    case isFalse hge =>
      obtain ⟨hlt, hfg⟩ := List.getElem?_eq_some_iff.mp hg
      obtain rfl : f = g := by simpa using hfg
      have hk : k = frames.length := by
        rw [List.length_singleton] at hlt
        omega
      rw [hk, ← h.first, ← h.pfx]
      exact decPage_eq_some_iff.mpr ⟨checkPasses_iff_eq_not.mp hc, rfl⟩
  blk := by simp [h.blk, frameData]
  history := by simp [h.history, readEvents]

/-- One more read, which ends the transaction's pages. -/
theorem boundedReads_of_read {frames : List Bytes} {a : ReadAnswer} {v : State} (h : FramesRead addr s frames u)
    (hk : frames.length < n) (hh : v.history = u.history ++ [.r 34 a]) : BoundedReads addr n s v := by
  refine ⟨.ok, frames.map .ok ++ [a], ?_, by simpa using hk, by simp, ?_⟩
  · rw [hh, h.history, readEvents_eq_map]
    simp
  · rw [List.dropLast_concat]
    simp

theorem boundedReads_of_framesRead {frames : List Bytes} (h : FramesRead addr s frames u) (hk : frames.length ≤ n) :
    BoundedReads addr n s u := by
  refine ⟨.ok, frames.map .ok, ?_, by simpa using hk, by simp, ?_⟩
  · rw [h.history, readEvents_eq_map]
  · intro r hr
    obtain ⟨bs, -, rfl⟩ := List.mem_map.mp (List.mem_of_mem_dropLast hr)
    exact ⟨bs, rfl⟩

theorem trace_advance {v : State} (h : Trace addr n s u) (ha : Advance u v) : Trace addr n s v := by
  cases ha with
  | command hp hw =>
    obtain rfl := trace_of_cmd h hp
    refine .pages [] rfl rfl n.zero_le ?_
    exact ⟨rfl, rfl, rfl, by simp, rfl, by simp, rfl, rfl⟩
  | @commandFails e rest hp hw =>
    obtain rfl := trace_of_cmd h hp
    exact .failed rfl (by simp) ⟨.err e, [], rfl, n.zero_le, fun _ => rfl, by simp⟩
  | page hp hk hl hr hc =>
    obtain ⟨frames, hn, -, hf⟩ := trace_of_page h hp
    have hlt : frames.length < n := by rwa [hn, hf.k] at hk
    exact .pages _ hp hn (by simpa using hlt) (framesRead_page hf hl hr hc)
  | badPage hp hk hl hr hc =>
    obtain ⟨frames, hn, -, hf⟩ := trace_of_page h hp
    exact .failed rfl (by simp) (boundedReads_of_read hf (by rwa [hn, hf.k] at hk) rfl)
  | pageFails hp hk hl hr =>
    obtain ⟨frames, hn, -, hf⟩ := trace_of_page h hp
    exact .failed rfl (by simp) (boundedReads_of_read hf (by rwa [hn, hf.k] at hk) rfl)
  | pagesDone hp hk =>
    obtain ⟨frames, hn, hle, hf⟩ := trace_of_page h hp
    rw [hn, hf.k] at hk
    refine .complete frames rfl (hle.antisymm hk) ?_
    exact ⟨hf.pfx, hf.k, hf.first, hf.lengths, hf.rdIn, hf.valid, hf.blk, hf.history⟩

theorem trace_of_advances (h : ReflTransGen Advance (latchRead Config.params addr n s) u) : Trace addr n s u := by
  induction h with
  | refl => exact .latched
  | tail _ hstep ih => exact trace_advance ih hstep

theorem boundedReads_of_trace (h : Trace addr n s u) (hp : u.phase = .reset) : BoundedReads addr n s u := by
  obtain ⟨frames, hk, hf⟩ | ⟨-, hb⟩ := trace_of_reset h hp
  · exact boundedReads_of_framesRead hf hk.le
  · exact hb

/-- Settles O33: a run that ends made the reset write from phase RESET, before which the reads are bounded. -/
theorem busResetOnEveryExitPath : Obligations.BusResetOnEveryExitPath := by
  intro addr n s t hn hex hidle
  cases (exec_readmem_of_allowed hn addr s).symm.trans hex
  obtain ⟨u, hu, ht⟩ := continueRead_run (s := latchRead Config.params addr n s) (by simp)
  generalize continueRead (latchRead Config.params addr n s) = t at ht hidle ⊢
  cases ht with
  | blocked hb => exact absurd hidle (phase_ne_idle_of_blocked hb)
  | @ended rr rest hp hw =>
    obtain ⟨a, reads, hh, hlen, hfail, hok⟩ := boundedReads_of_trace (trace_of_advances hu) hp
    obtain ⟨r, blk, hfin, -⟩ := finishRead_deliver rr (u.wrote [] rr rest)
    refine ⟨a, rr, reads, ?_, hlen, hfail, hok⟩
    rw [hfin]
    simp [hh]

/-- Settles O32: a block is returned only at the end of a run that met no error, all of whose frames
validated. -/
theorem returnedBlockIsValidated : Obligations.ReturnedBlockIsValidated := by
  intro addr n s t blk hex hout
  by_cases hn : pagesAllowed Config.params n = true
  · cases (exec_readmem_of_allowed hn addr s).symm.trans hex
    obtain ⟨u, hu, ht⟩ := continueRead_run (s := latchRead Config.params addr n s) (by simp)
    have hsilent : u.hostOut = s.hostOut := (silent_of_advances hu).1
    generalize continueRead (latchRead Config.params addr n s) = t at ht hout ⊢
    cases ht with
    | blocked => simp [hsilent] at hout
    | @ended rr rest hp hw =>
      cases he : readError u.rdErr rr with
      | some e =>
        rw [finishRead_of_error (by exact he)] at hout
        simp [hsilent] at hout
      | none =>
        obtain ⟨hrd, rfl⟩ := readError_eq_none he
        rw [finishRead_of_ok (by exact hrd)] at hout ⊢
        obtain rfl : u.blk = blk := by simpa [hsilent] using hout
        obtain ⟨frames, hk, hf⟩ | ⟨hne, -⟩ := trace_of_reset (trace_of_advances hu) hp
        · refine ⟨frames, hk, (pagesAllowed_iff.mp hn).1, hf.lengths, hf.rdIn, hf.valid, hf.blk, ?length, ?history⟩
          case length =>
            have hdata : ∀ d ∈ frames.map (List.take 32), d.length = 32 := by
              intro d hd
              obtain ⟨f, hmem, rfl⟩ := List.mem_map.mp hd
              rw [List.length_take, hf.lengths f hmem]
              rfl
            rw [hf.blk, length_flatten_of_forall hdata, List.length_map, hk]
          case history => simp [hf.history]
        · exact absurd hrd hne
  · cases (exec_readmem_of_not_allowed hn addr s).symm.trans hex
    simp at hout

end Sys2Proof.Machine
end
